-- ==== Sys2Proof/Word.lean ====
section
/-! DEFINITION. The bit vectors and byte sequences of the spec's notation (00_scope.md R10, R11). -/

namespace Sys2Proof

/-- `bits8` of R10. -/
abbrev Byte := BitVec 8

/-- `bits32` of R10: a register word, and a command word (R80). -/
abbrev Word := BitVec 32

/-- A 16-byte value `X[0..15]` of R11: a block, a state, an IV or a round key. -/
abbrev Block := Vector Byte 16

end Sys2Proof
end

