-- ==== Sys2Proof/Config.lean ====
section
/-! DEFINITION. What a platform fixes and the spec leaves open (00_scope.md R6). AES_BASE is the only open
parameter at the level of register transactions: BUS_PROTOCOL is below it, and LAT(cmd) is the place of the
completion among the host's events (log entry 5). -/

namespace Sys2Proof

/-- AES_BASE / 4096, not given by the spec (20_memory.md R51: AES_BASE is an open multiple of 4096; log entry 4). -/
opaque Config.aesBasePage : Nat

/-- AES_BASE (R51), a multiple of 4096. -/
def Config.aesBase : Nat := 4096 * Config.aesBasePage

end Sys2Proof
end

