-- ==== Sys2Proof/Syntax.lean ====
section
/-! DEFINITION. The 20 commands of 30_encoding.md R84, one constructor for each row of the opcode table, with the
operand fields that R82 and R84 give it. -/

namespace Sys2Proof

/-- MSG_DIR of 10_state.md R22: 0 encrypt, 1 decrypt. -/
inductive Dir where
  | enc
  | dec
  deriving DecidableEq, Repr

/-- MSG_MODE of 10_state.md R22: 0 ECB, 1 CBC. -/
inductive Mode where
  | ecb
  | cbc
  deriving DecidableEq, Repr

/-- A command (R80: one 32-bit word each). `a` and `b` are the operand bytes A and B of R81. -/
inductive Instr where
  | nop
  | clrErr
  | gfMul (a b : Byte)
  | sbox (x : Byte)
  | invSbox (y : Byte)
  | keyExpand (len : Byte)
  | subBytes
  | invSubBytes
  | shiftRows
  | invShiftRows
  | mixColumns
  | invMixColumns
  | addRoundKey (n : Byte)
  | encBlock
  | decBlock
  | padAdd (n : Byte)
  | padCheck
  /-- The operand byte whole: A[0] = DIR, A[1] = MODE, A[7:2] reserved (R82). -/
  | msgStart (a : Byte)
  | msgBlock
  | msgAbort
  deriving DecidableEq, Repr

end Sys2Proof
end

