-- ==== Sys2Proof/Machine/State.lean ====
section
/-! DEFINITION. The core's architectural state (10_state.md R20, R22, R43), the environment's events, the reasons a
step can stop, and the state after reset (70_reset_and_hazards.md R301). -/

namespace Sys2Proof.Machine

/-- The values of STATUS.ERR (60_exceptions.md R271). `none` is code 0; 9..15 are never written. -/
inductive ErrCode where
  | none
  | invalidKeyLength
  | invalidIvLength
  | invalidBlockLength
  | invalidPadding
  | noKey
  | illegalCommand
  | badOperand
  | sequence
  deriving DecidableEq, Repr

/-- The values of STATUS.NR (10_state.md R22, R23): 0 (no schedule held), 10, 12 and 14. -/
inductive Rounds where
  | none
  | ten
  | twelve
  | fourteen
  deriving DecidableEq, Repr

/-- What may happen next (00_scope.md R8, its four kinds of step). `off` is an offset in the window and `size` a
width in bits (20_memory.md R51, R52). `complete` says when the core's own step falls among the others. -/
inductive Event where
  | read (off size : Nat)
  | write (off size : Nat) (v : Word)
  | complete
  | reset
  deriving DecidableEq, Repr

/-- What the bus answers to a transaction: a read's value, a write's ok, or BusError (20_memory.md R54, R55;
60_exceptions.md R287). -/
inductive Reply where
  | data (v : Word)
  | ok
  | busError
  deriving DecidableEq, Repr

/-- Why a step cannot be taken. An error of a command is not one of these: it is a value in STATUS.ERR (R270). -/
inductive Fault where
  /-- Raised by `performEvent` for a `complete` event while BUSY = 0, a step that 00_scope.md R8 and 40_control.md
  R100 do not enable: such a list of events is no execution of the core (log entry 3). Safe: the model stops. -/
  | completionNotEnabled
  deriving DecidableEq, Repr

/-- Why an instruction has no meaning in the model. -/
inductive Refusal where
  /-- Raised by an arm of `exec` for a command without a meaning yet. No arm raises it. Safe: the model stops. -/
  | notModelled (mnemonic : String)
  deriving DecidableEq, Repr

/-- Everything the core holds between steps (10_state.md R44: nothing else). The STATUS fields come first, each
under its own name; bits that always read 0 have no storage. The last two fields are the environment's. -/
structure State where
  /-- STATUS[0] (R25). -/
  busy : Bool
  /-- STATUS[1] (R26). -/
  keyValid : Bool
  /-- STATUS[2] (R27). -/
  msgActive : Bool
  /-- STATUS[3] (R27). -/
  msgDir : Dir
  /-- STATUS[4] (R27). -/
  msgMode : Mode
  /-- STATUS[5] (R28). -/
  ovr : Bool
  /-- STATUS[11:8] (R29). -/
  err : ErrCode
  /-- STATUS[15:12] (R26). -/
  nr : Rounds
  /-- STATUS[20:16] (R30). -/
  doutBytes : BitVec 5
  /-- STATUS[27:24] (R31). -/
  ivWr : BitVec 4
  /-- PENDING, the hidden command latch (R43). -/
  pending : Word
  /-- RESULT[7:0] (R33). -/
  result : Byte
  /-- MSG_LEN (R34). -/
  msgLen : Word
  /-- MSG_REMAIN[28:0] (R34). -/
  msgRemain : BitVec 29
  /-- MSG_TAIL[3:0] (R34). -/
  msgTail : BitVec 4
  /-- KEY[0..31] (R35). -/
  key : Vector Byte 32
  /-- IV[0..15] (R38). -/
  iv : Block
  /-- CHAIN[0..15] (R39). -/
  chain : Block
  /-- STATE[0..15] (R40). -/
  state : Block
  /-- DIN[0..15] (R41). -/
  din : Block
  /-- DOUT[0..15] (R42). -/
  dout : Block
  /-- RKW[0..59] (R36). -/
  rkw : Vector Word 60
  /-- The environment's events still to come, the next one first (the model's own field, log entry 1). -/
  inputs : List Event
  /-- The bus's answers so far, the newest first (the model's own field, log entry 2). -/
  replies : List Reply
  deriving DecidableEq, Repr

/-- What one step answers. -/
abbrev Result := Host.Outcome State Fault Refusal

/-- Sixteen bytes of 0x00. -/
def zeroBlock : Block := Vector.replicate 16 0#8

/-- The core right after reset (R301), with nothing asked of it and nothing answered. -/
def State.reset : State where
  busy := false
  keyValid := false
  msgActive := false
  msgDir := .enc
  msgMode := .ecb
  ovr := false
  err := .none
  nr := .none
  doutBytes := 0
  ivWr := 0
  pending := 0
  result := 0
  msgLen := 0
  msgRemain := 0
  msgTail := 0
  key := Vector.replicate 32 0#8
  iv := zeroBlock
  chain := zeroBlock
  state := zeroBlock
  din := zeroBlock
  dout := zeroBlock
  rkw := Vector.replicate 60 0#32
  inputs := []
  replies := []

end Sys2Proof.Machine
end

