-- ==== Sys2Proof/Machine/Operands.lean ====
section
/-! DEFINITION. How bytes lie in words, registers and the state matrix (00_scope.md R11, R12; 20_memory.md R56). -/

namespace Sys2Proof.Machine

/-- Four bytes as a word, byte 0 in bits [31:24] (R11, R56). -/
def packWord (b0 b1 b2 b3 : Byte) : Word := b0 ++ b1 ++ b2 ++ b3

/-- Byte `k` (0..3) of a word: byte 0 is bits [31:24], byte 3 bits [7:0] (R56). -/
def wordByte (v : Word) (k : Nat) : Byte := v.extractLsb' (24 - 8 * k) 8

/-- Word `j` of a multi-byte register: bytes 4j..4j+3 (R11, R20). -/
def regWord {n : Nat} (x : Vector Byte n) (j : Nat) : Word :=
  packWord (x.getD (4 * j) 0) (x.getD (4 * j + 1) 0) (x.getD (4 * j + 2) 0) (x.getD (4 * j + 3) 0)

/-- A write of `v` to word `j` of a multi-byte register (R56). -/
def setRegWord {n : Nat} (x : Vector Byte n) (j : Nat) (v : Word) : Vector Byte n :=
  Vector.ofFn fun k => if k.val / 4 = j then wordByte v (k.val % 4) else x[k]

/-- Entry `s[r][c] = b[r + 4c]` of the state matrix, row and column taken modulo 4 (R12). -/
def entry (b : Block) (r c : Nat) : Byte := b[r % 4 + 4 * (c % 4)]'(by omega)

/-- The 16 bytes of the matrix with the entries `f r c` (R12). -/
def ofEntries (f : Nat → Nat → Byte) : Block := Vector.ofFn fun k => f (k.val % 4) (k.val / 4)

/-- `X ^ Y` of two 16-byte values, byte by byte (R11). -/
def xorBlock (x y : Block) : Block := Vector.zipWith (fun a b => a ^^^ b) x y

/-- The bytes of a block in order (R57). -/
def blockBytes (b : Block) : List Byte := b.toList

/-- The `i`-th 16-byte chunk of a byte string; `fill` stands where the string has ended. -/
def blockAt (d : List Byte) (i : Nat) (fill : Byte) : Block := Vector.ofFn fun k => d.getD (16 * i + k.val) fill

end Sys2Proof.Machine
end

