-- ==== Sys2Proof/Machine/Flags.lean ====
section
/-! DEFINITION. The STATUS register: the numbers of its fields' values and the word a read of it returns
(10_state.md R22). -/

namespace Sys2Proof.Machine

/-- The numeric error codes (60_exceptions.md R271). -/
def ErrCode.code : ErrCode → BitVec 4
  | .none => 0
  | .invalidKeyLength => 1
  | .invalidIvLength => 2
  | .invalidBlockLength => 3
  | .invalidPadding => 4
  | .noKey => 5
  | .illegalCommand => 6
  | .badOperand => 7
  | .sequence => 8

/-- The round count (42_key_schedule.md R140; 0 when no schedule is held). -/
def Rounds.count : Rounds → Nat
  | .none => 0
  | .ten => 10
  | .twelve => 12
  | .fourteen => 14

/-- The NR field's bits (10_state.md R22). -/
def Rounds.bits (r : Rounds) : BitVec 4 := BitVec.ofNat 4 r.count

/-- MSG_DIR's bit (10_state.md R22). -/
def dirBit : Dir → BitVec 1
  | .enc => 0
  | .dec => 1

/-- MSG_MODE's bit (10_state.md R22). -/
def modeBit : Mode → BitVec 1
  | .ecb => 0
  | .cbc => 1

/-- What a read of STATUS returns (R22): the fields in their places, the reserved bits 0. -/
def statusWord (s : State) : Word :=
  0#4 ++ s.ivWr ++ 0#3 ++ s.doutBytes ++ s.nr.bits ++ s.err.code ++ 0#2 ++ BitVec.ofBool s.ovr ++ modeBit s.msgMode
    ++ dirBit s.msgDir ++ BitVec.ofBool s.msgActive ++ BitVec.ofBool s.keyValid ++ BitVec.ofBool s.busy

end Sys2Proof.Machine
end

