-- ==== Sys2Proof/Machine/Ops.lean ====
section
/-! DEFINITION. The named operations on the state that commands and transactions share: raising an error and
returning from it (60_exceptions.md R273, R279), the gate (R274), the end of a message (46_modes.md R237, R238), and
the writes of RESULT and STATE. -/

namespace Sys2Proof.Machine

/-- `raise Error(code)` (00_scope.md R13, R273): the code is recorded in STATUS.ERR and nothing else is written.
What the command writes besides (R273's table) it writes before. -/
def raise (c : ErrCode) (s : State) : State := { s with err := c }

/-- The return from an error (R279, 40_control.md R103): ERR and OVR are cleared, and nothing is restored. -/
def clearErrors (s : State) : State := { s with err := .none, ovr := false }

/-- The gate is closed (R274): an error or an overrun stands recorded. -/
def gateClosed (s : State) : Bool := s.err ≠ .none || s.ovr

/-- `RESULT <- zext_32(v)` (10_state.md R33: RESULT[31:8] always read 0). -/
def writeResult (v : Byte) (s : State) : State := { s with result := v }

/-- `STATE <- b` (10_state.md R40). -/
def writeState (b : Block) (s : State) : State := { s with state := b }

/-- EndMessage (46_modes.md R238). -/
def endMessage (s : State) : State :=
  { s with msgActive := false, msgDir := .enc, msgMode := .ecb, msgRemain := 0, msgTail := 0, chain := zeroBlock }

/-- `DOUT <- b; STATUS.DOUT_BYTES <- n` (46_modes.md R236, R237). -/
def writeDout (b : Block) (n : BitVec 5) (s : State) : State := { s with dout := b, doutBytes := n }

/-- PaddingFailure (46_modes.md R237): the final block is withheld, the message ends, and the error is raised. -/
def paddingFailure (s : State) : State := raise .invalidPadding (endMessage (writeDout zeroBlock 0 s))

/-- The schedule is invalidated: KEY_VALID, NR and the whole store become 0 (42_key_schedule.md R147). -/
def dropSchedule (s : State) : State :=
  { s with keyValid := false, nr := .none, rkw := Vector.replicate 60 0#32 }

/-- A schedule takes effect (42_key_schedule.md R147). -/
def holdSchedule (r : Rounds) (w : Vector Word 60) (s : State) : State :=
  { s with rkw := w, nr := r, keyValid := true }

/-- A CMD write while idle: the word becomes the pending command (10_state.md R25). -/
def issue (w : Word) (s : State) : State := { s with pending := w, busy := true }

/-- The end of a completion: `STATUS.BUSY <- 0; PENDING <- 0` (40_control.md R100). -/
def retire (s : State) : State := { s with busy := false, pending := 0 }

/-- The bus's answer reaches the host. -/
def answer (r : Reply) (s : State) : State := { s with replies := r :: s.replies }

/-- A `Reset` step (70_reset_and_hazards.md R300, R301): every register at its reset value. What the environment
still has in store, and what the host has already read (R303), is no state of the core. -/
def resetCore (s : State) : State := { State.reset with inputs := s.inputs, replies := s.replies }

end Sys2Proof.Machine
end

