-- ==== Sys2Proof/Machine/Bus.lean ====
section
/-! DEFINITION. The register window: which register stands at an offset (10_state.md R20), and the host's reads and
writes (20_memory.md R51 to R56). -/

namespace Sys2Proof.Machine

/-- A mapped register word (R20). -/
inductive Reg where
  | id
  | status
  | cmd
  | result
  | msgLen
  | msgRemain
  | msgTail
  | key (j : Fin 8)
  | iv (j : Fin 4)
  | chain (j : Fin 4)
  | state (j : Fin 4)
  | din (j : Fin 4)
  | dout (j : Fin 4)
  | rkw (i : Fin 60)
  deriving DecidableEq, Repr

/-- The register's offset (R20). -/
def Reg.offset : Reg → Nat
  | .id => 0x000
  | .status => 0x004
  | .cmd => 0x008
  | .result => 0x00C
  | .msgLen => 0x010
  | .msgRemain => 0x014
  | .msgTail => 0x018
  | .key j => 0x020 + 4 * j.val
  | .iv j => 0x040 + 4 * j.val
  | .chain j => 0x050 + 4 * j.val
  | .state j => 0x060 + 4 * j.val
  | .din j => 0x070 + 4 * j.val
  | .dout j => 0x080 + 4 * j.val
  | .rkw i => 0x100 + 4 * i.val

/-- Every mapped register word, in the order of the window (R20). -/
def allRegs : List Reg :=
  [.id, .status, .cmd, .result, .msgLen, .msgRemain, .msgTail] ++ (List.finRange 8).map .key ++
    (List.finRange 4).map .iv ++ (List.finRange 4).map .chain ++ (List.finRange 4).map .state ++
    (List.finRange 4).map .din ++ (List.finRange 4).map .dout ++ (List.finRange 60).map .rkw

/-- The register an access reaches; `none` is BusError: a size other than 32 bits, an offset that is not a multiple
of 4 (R52), or an unmapped offset (R53). -/
def regAt (off size : Nat) : Option Reg :=
  if size ≠ 32 ∨ off % 4 ≠ 0 then none else allRegs.find? fun r => r.offset = off

/-- The identification constant, "AES1" (10_state.md R21). -/
def idValue : Word := 0x41455331

/-- The value a read returns (R54). -/
def readReg (r : Reg) (s : State) : Word :=
  match r with
  | .id => idValue
  | .status => statusWord s
  | .cmd => 0
  | .result => s.result.setWidth 32
  | .msgLen => s.msgLen
  | .msgRemain => s.msgRemain.setWidth 32
  | .msgTail => s.msgTail.setWidth 32
  | .key j => regWord s.key j
  | .iv j => regWord s.iv j
  | .chain j => regWord s.chain j
  | .state j => regWord s.state j
  | .din j => regWord s.din j
  | .dout j => regWord s.dout j
  | .rkw i => s.rkw[i]

/-- The effect of a write while BUSY = 0 (R55); a read-only register takes none. -/
def writeReg (r : Reg) (v : Word) (s : State) : State :=
  match r with
  | .cmd => issue v s
  | .msgLen => { s with msgLen := v }
  | .key j => { s with key := setRegWord s.key j v }
  | .iv j => { s with iv := setRegWord s.iv j v, ivWr := s.ivWr ||| (1#4 <<< j.val) }
  | .state j => { s with state := setRegWord s.state j v }
  | .din j => { s with din := setRegWord s.din j v }
  | .id | .status | .result | .msgRemain | .msgTail | .chain _ | .dout _ | .rkw _ => s

/-- BusRead (R54): the answer. A read changes no state. -/
def busRead (off size : Nat) (s : State) : Reply :=
  match regAt off size with
  | none => .busError
  | some r => .data (readReg r s)

/-- The answer of BusWrite (R55). -/
def busWriteReply (off size : Nat) : Reply :=
  match regAt off size with
  | none => .busError
  | some _ => .ok

/-- The effect of BusWrite (R55): none on BusError; while BUSY = 1 the write is dropped and OVR set
(70_reset_and_hazards.md R306). -/
def busWrite (off size : Nat) (v : Word) (s : State) : State :=
  match regAt off size with
  | none => s
  | some r => if s.busy then { s with ovr := true } else writeReg r v s

/-- `off = address - AES_BASE` (R51) of a platform address in the window, `none` outside it. -/
def windowOffset (address : Nat) : Option Nat :=
  if Config.aesBase ≤ address ∧ address < Config.aesBase + 4096 then some (address - Config.aesBase) else none

end Sys2Proof.Machine
end

