-- ==== Sys2Proof/WellFormed.lean ====
section
/-! DEFINITION. Which command terms have an encoding. Operand bytes are taken as they are (30_encoding.md R82), so
the one check is R83's fourth condition: MSG_START's A[7:2] is 0. An operand out of its command's range (a key
length of 17, a round index of 200) is well formed: it is a value error of the command's own rule (R82). -/

namespace Sys2Proof

/-- The term is the reading of some word that decodes (R83). -/
def Instr.wf : Instr → Bool
  | .msgStart a => a.extractLsb' 2 6 = 0#6
  | .nop | .clrErr | .gfMul _ _ | .sbox _ | .invSbox _ | .keyExpand _ | .subBytes | .invSubBytes | .shiftRows
  | .invShiftRows | .mixColumns | .invMixColumns | .addRoundKey _ | .encBlock | .decBlock | .padAdd _ | .padCheck
  | .msgBlock | .msgAbort => true

end Sys2Proof
end

