-- ==== Sys2Proof/Decode.lean ====
section
/-! DEFINITION. From a command word to a command or a named rejection (30_encoding.md R81, R83, R85), and back. -/

namespace Sys2Proof

/-- Why a word does not decode (the kinds of illegal word of R85). The hardware does not tell them apart: every
one is ILLEGAL_COMMAND. -/
inductive Illegal where
  | unassignedOpcode
  | reservedNonzero
  | unusedANonzero
  | unusedBNonzero
  | msgStartReservedNonzero
  deriving DecidableEq, Repr

/-- OPC, bits [7:0] (R81). -/
def opcField (w : Word) : Byte := w.extractLsb' 0 8

/-- A, bits [15:8] (R81). -/
def aField (w : Word) : Byte := w.extractLsb' 8 8

/-- B, bits [23:16] (R81). -/
def bField (w : Word) : Byte := w.extractLsb' 16 8

/-- RSV, bits [31:24] (R81). -/
def rsvField (w : Word) : Byte := w.extractLsb' 24 8

/-- A command that uses neither A nor B: both must be 0 (R83). -/
def plainForm (i : Instr) (a b : Byte) : Except Illegal Instr :=
  if a ≠ 0#8 then .error .unusedANonzero else if b ≠ 0#8 then .error .unusedBNonzero else .ok i

/-- A command that uses A alone: B must be 0 (R83). -/
def oneByteForm (i : Byte → Instr) (a b : Byte) : Except Illegal Instr :=
  if b ≠ 0#8 then .error .unusedBNonzero else .ok (i a)

/-- MSG_START: B must be 0, and so must A[7:2] (R83). -/
def msgStartForm (a b : Byte) : Except Illegal Instr :=
  if a.extractLsb' 2 6 ≠ 0#6 then .error .msgStartReservedNonzero else oneByteForm .msgStart a b

/-- The row of R84 that OPC selects, applied to the operand fields. -/
def decodeOpcode (opc a b : Byte) : Except Illegal Instr :=
  match opc with
  | 0x00#8 => plainForm .nop a b
  | 0x01#8 => plainForm .clrErr a b
  | 0x08#8 => .ok (.gfMul a b)
  | 0x09#8 => oneByteForm .sbox a b
  | 0x0A#8 => oneByteForm .invSbox a b
  | 0x10#8 => oneByteForm .keyExpand a b
  | 0x20#8 => plainForm .subBytes a b
  | 0x21#8 => plainForm .invSubBytes a b
  | 0x22#8 => plainForm .shiftRows a b
  | 0x23#8 => plainForm .invShiftRows a b
  | 0x24#8 => plainForm .mixColumns a b
  | 0x25#8 => plainForm .invMixColumns a b
  | 0x26#8 => oneByteForm .addRoundKey a b
  | 0x30#8 => plainForm .encBlock a b
  | 0x31#8 => plainForm .decBlock a b
  | 0x40#8 => oneByteForm .padAdd a b
  | 0x41#8 => plainForm .padCheck a b
  | 0x50#8 => msgStartForm a b
  | 0x51#8 => plainForm .msgBlock a b
  | 0x52#8 => plainForm .msgAbort a b
  | _ => .error .unassignedOpcode

/-- Decodes of R83, with the command it reads. Total: every one of the 2^32 words is a command or is illegal (R86). -/
def decode (w : Word) : Except Illegal Instr :=
  if rsvField w ≠ 0#8 then .error .reservedNonzero else decodeOpcode (opcField w) (aField w) (bField w)

/-- `OPC | (A << 8) | (B << 16)` (R84), RSV = 0. -/
def commandWord (opc a b : Byte) : Word := 0#8 ++ b ++ a ++ opc

/-- The word of a command, from the table of R84. -/
def encode : Instr → Word
  | .nop => commandWord 0x00 0 0
  | .clrErr => commandWord 0x01 0 0
  | .gfMul a b => commandWord 0x08 a b
  | .sbox x => commandWord 0x09 x 0
  | .invSbox y => commandWord 0x0A y 0
  | .keyExpand len => commandWord 0x10 len 0
  | .subBytes => commandWord 0x20 0 0
  | .invSubBytes => commandWord 0x21 0 0
  | .shiftRows => commandWord 0x22 0 0
  | .invShiftRows => commandWord 0x23 0 0
  | .mixColumns => commandWord 0x24 0 0
  | .invMixColumns => commandWord 0x25 0 0
  | .addRoundKey n => commandWord 0x26 n 0
  | .encBlock => commandWord 0x30 0 0
  | .decBlock => commandWord 0x31 0 0
  | .padAdd n => commandWord 0x40 n 0
  | .padCheck => commandWord 0x41 0 0
  | .msgStart a => commandWord 0x50 a 0
  | .msgBlock => commandWord 0x51 0 0
  | .msgAbort => commandWord 0x52 0 0

/-- DIR of MSG_START's operand: A[0] (R82). -/
def msgDirOf (a : Byte) : Dir := if a.getLsbD 0 then .dec else .enc

/-- MODE of MSG_START's operand: A[1] (R82). -/
def msgModeOf (a : Byte) : Mode := if a.getLsbD 1 then .cbc else .ecb

/-- MSG_START's operand byte, `dir | (mode << 1)` (R87). -/
def msgStartOperand (d : Dir) (m : Mode) : Byte :=
  match d, m with
  | .enc, .ecb => 0
  | .dec, .ecb => 1
  | .enc, .cbc => 2
  | .dec, .cbc => 3

/-- One row of the opcode table (R84): a word is the row's command exactly when `word & mask = pattern`. -/
structure OpcodeRow where
  mnemonic : String
  pattern : Word
  mask : Word
  deriving DecidableEq, Repr

/-- The match and mask columns of R84, in the table's order. -/
def opcodeTable : List OpcodeRow :=
  [⟨"NOP", 0x00000000, 0xFFFFFFFF⟩, ⟨"CLR_ERR", 0x00000001, 0xFFFFFFFF⟩,
   ⟨"GF_MUL", 0x00000008, 0xFF0000FF⟩, ⟨"SBOX", 0x00000009, 0xFFFF00FF⟩, ⟨"INV_SBOX", 0x0000000A, 0xFFFF00FF⟩,
   ⟨"KEY_EXPAND", 0x00000010, 0xFFFF00FF⟩] ++
  [⟨"SUB_BYTES", 0x00000020, 0xFFFFFFFF⟩, ⟨"INV_SUB_BYTES", 0x00000021, 0xFFFFFFFF⟩,
   ⟨"SHIFT_ROWS", 0x00000022, 0xFFFFFFFF⟩, ⟨"INV_SHIFT_ROWS", 0x00000023, 0xFFFFFFFF⟩,
   ⟨"MIX_COLUMNS", 0x00000024, 0xFFFFFFFF⟩, ⟨"INV_MIX_COLUMNS", 0x00000025, 0xFFFFFFFF⟩,
   ⟨"ADD_ROUND_KEY", 0x00000026, 0xFFFF00FF⟩] ++
  [⟨"ENC_BLOCK", 0x00000030, 0xFFFFFFFF⟩, ⟨"DEC_BLOCK", 0x00000031, 0xFFFFFFFF⟩,
   ⟨"PAD_ADD", 0x00000040, 0xFFFF00FF⟩, ⟨"PAD_CHECK", 0x00000041, 0xFFFFFFFF⟩,
   ⟨"MSG_START", 0x00000050, 0xFFFFFCFF⟩, ⟨"MSG_BLOCK", 0x00000051, 0xFFFFFFFF⟩,
   ⟨"MSG_ABORT", 0x00000052, 0xFFFFFFFF⟩]

/-- `(cmd & mask) = match` for the row (R83). -/
def OpcodeRow.admits (r : OpcodeRow) (w : Word) : Bool := w &&& r.mask = r.pattern

/-- The mnemonic of a command (R84). -/
def Instr.mnemonic : Instr → String
  | .nop => "NOP"
  | .clrErr => "CLR_ERR"
  | .gfMul _ _ => "GF_MUL"
  | .sbox _ => "SBOX"
  | .invSbox _ => "INV_SBOX"
  | .keyExpand _ => "KEY_EXPAND"
  | .subBytes => "SUB_BYTES"
  | .invSubBytes => "INV_SUB_BYTES"
  | .shiftRows => "SHIFT_ROWS"
  | .invShiftRows => "INV_SHIFT_ROWS"
  | .mixColumns => "MIX_COLUMNS"
  | .invMixColumns => "INV_MIX_COLUMNS"
  | .addRoundKey _ => "ADD_ROUND_KEY"
  | .encBlock => "ENC_BLOCK"
  | .decBlock => "DEC_BLOCK"
  | .padAdd _ => "PAD_ADD"
  | .padCheck => "PAD_CHECK"
  | .msgStart _ => "MSG_START"
  | .msgBlock => "MSG_BLOCK"
  | .msgAbort => "MSG_ABORT"

/-- The command this decoder reads from a table word of `nbits` bits, the bits above it 0. A command is the whole
word of one CMD write (R80), so there is no byte order to lay out. -/
def decodeTableWord (nbits w : Nat) : Option Instr :=
  match decode (BitVec.ofNat 32 (w % 2 ^ nbits)) with
  | .ok i => some i
  | .error _ => none

end Sys2Proof
end

