-- ==== Sys2Proof/Machine/Control.lean ====
section
/-! DEFINITION. The control commands NOP and CLR_ERR (40_control.md R102, R103). -/

namespace Sys2Proof.Machine

/-- NOP (R102): no effect of its own. -/
def execNop (s : State) : Result := .next s

/-- CLR_ERR (R103): the return from an error. -/
def execClrErr (s : State) : Result := .next (clearErrors s)

end Sys2Proof.Machine
end

