-- ==== Sys2Proof/Machine/KeySchedule.lean ====
section
/-! DEFINITION. The key schedule (42_key_schedule.md): KEY_EXPAND. Schedule words are packed as in 20_memory.md R56,
byte 0 in bits [31:24], which is how RKW holds them (R146). -/

namespace Sys2Proof.Machine

/-- The round count of a key length in bytes, `none` for a length that is not accepted (R140). -/
def roundsOfLength (len : Nat) : Option Rounds :=
  if len = 16 then some .ten else if len = 24 then some .twelve else if len = 32 then some .fourteen else none

/-- `rc[j]` (R141); only the indexes 1..10 are read (R149). -/
def rcon : Nat → Byte
  | 1 => 0x01
  | 2 => 0x02
  | 3 => 0x04
  | 4 => 0x08
  | 5 => 0x10
  | 6 => 0x20
  | 7 => 0x40
  | 8 => 0x80
  | 9 => 0x1B
  | 10 => 0x36
  | _ => 0

/-- RotWord (R142). -/
def rotWord (t : Word) : Word := packWord (wordByte t 1) (wordByte t 2) (wordByte t 3) (wordByte t 0)

/-- SubWord (R143). -/
def subWord (t : Word) : Word :=
  packWord (sboxOf (wordByte t 0)) (sboxOf (wordByte t 1)) (sboxOf (wordByte t 2)) (sboxOf (wordByte t 3))

/-- What R144's loop makes of `t = w[i-1]` before the XOR with `w[i-Nk]`. -/
def scheduleCore (nk i : Nat) (t : Word) : Word :=
  if i % nk = 0 then subWord (rotWord t) ^^^ packWord (rcon (i / nk)) 0 0 0
  else if nk = 8 ∧ i % nk = 4 then subWord t
  else t

/-- `count` passes of R144's loop: from w[0..i-1], append w[i], w[i+1], and so on. -/
def growSchedule (nk : Nat) : Nat → List Word → List Word
  | 0, w => w
  | count + 1, w =>
    growSchedule nk count (w ++ [scheduleCore nk w.length (w.getD (w.length - 1) 0) ^^^ w.getD (w.length - nk) 0])

/-- KeyExpansion (R144) of the key whose Nk words are `keyWords`: the 4(Nr+1) words of the schedule. -/
def keyExpansion (r : Rounds) (keyWords : List Word) : List Word :=
  growSchedule keyWords.length (4 * (r.count + 1) - keyWords.length) keyWords

/-- The round-key store of a schedule: zero beyond its words (R146). -/
def storeOf (w : List Word) : Vector Word 60 := Vector.ofFn fun i => w.getD i.val 0

/-- Words w[0..Nk-1] of the first `len` bytes of KEY (R144, R147). -/
def keyWordsOf (key : Vector Byte 32) (len : Nat) : List Word := (List.range (len / 4)).map (regWord key)

/-- `RK(n)` (R145): words 4n..4n+3 of the store as 16 bytes. -/
def roundKey (w : Vector Word 60) (n : Nat) : Block :=
  Vector.ofFn fun k => wordByte (w.getD (4 * n + k.val / 4) 0) (k.val % 4)

/-- KEY_EXPAND (R147). -/
def execKeyExpand (len : Byte) (s : State) : Result :=
  if s.msgActive then .next (raise .sequence s)
  else
    match roundsOfLength len.toNat with
    | none => .next (raise .invalidKeyLength (dropSchedule s))
    | some r => .next (holdSchedule r (storeOf (keyExpansion r (keyWordsOf s.key len.toNat))) s)

end Sys2Proof.Machine
end

