-- ==== Sys2Proof/Machine/RoundTransforms.lean ====
section
/-! DEFINITION. The round transforms and their inverses on a 16-byte value (43_round_transforms.md R160 to R167), and
the seven commands that apply one of them to STATE (R170 to R176). -/

namespace Sys2Proof.Machine

/-- SubBytes (R161). -/
def subBytes (b : Block) : Block := b.map sboxOf

/-- InvSubBytes (R162). -/
def invSubBytes (b : Block) : Block := b.map invSboxOf

/-- ShiftRows: `s'[r][c] = s[r][(c + r) mod 4]` (R163). -/
def shiftRows (b : Block) : Block := ofEntries fun r c => entry b r (c + r)

/-- InvShiftRows: `s'[r][c] = s[r][(c - r) mod 4]` (R164). -/
def invShiftRows (b : Block) : Block := ofEntries fun r c => entry b r (c + 4 - r)

/-- The coefficient vector of MixColumns, index modulo 4 (R165). -/
def mixCoeff (i : Nat) : Byte :=
  match i % 4 with
  | 0 => 0x02
  | 1 => 0x03
  | 2 => 0x01
  | _ => 0x01

/-- The coefficient vector of InvMixColumns, index modulo 4 (R166). -/
def invMixCoeff (i : Nat) : Byte :=
  match i % 4 with
  | 0 => 0x0E
  | 1 => 0x0B
  | 2 => 0x0D
  | _ => 0x09

/-- Every column times the circulant matrix of `co`: `s'[r][c] = XOR over k of gmul(co[(k - r) mod 4], s[k][c])`
(R165, R166). -/
def mixWith (co : Nat → Byte) (b : Block) : Block :=
  ofEntries fun r c =>
    gmul (co (4 - r)) (entry b 0 c) ^^^ gmul (co (5 - r)) (entry b 1 c) ^^^ gmul (co (6 - r)) (entry b 2 c)
      ^^^ gmul (co (7 - r)) (entry b 3 c)

/-- MixColumns (R165). -/
def mixColumns (b : Block) : Block := mixWith mixCoeff b

/-- InvMixColumns, the direct form (R166). -/
def invMixColumns (b : Block) : Block := mixWith invMixCoeff b

/-- The doubling of R166's other form: `u = xtime(xtime(s0 ^ s2))` into rows 0 and 2, `v = xtime(xtime(s1 ^ s3))`
into rows 1 and 3. -/
def doubleColumns (b : Block) : Block :=
  ofEntries fun r c => entry b r c ^^^ xtime (xtime (entry b r c ^^^ entry b (r + 2) c))

/-- InvMixColumns, the doubling form of R166: the same function (90_conflicts.md C5). The machine runs the direct
form. -/
def invMixColumnsByDoubling (b : Block) : Block := mixColumns (doubleColumns b)

/-- AddRoundKey (R167). -/
def addRoundKey (b k : Block) : Block := xorBlock b k

/-- SUB_BYTES (R170). -/
def execSubBytes (s : State) : Result := .next (writeState (subBytes s.state) s)

/-- INV_SUB_BYTES (R171). -/
def execInvSubBytes (s : State) : Result := .next (writeState (invSubBytes s.state) s)

/-- SHIFT_ROWS (R172). -/
def execShiftRows (s : State) : Result := .next (writeState (shiftRows s.state) s)

/-- INV_SHIFT_ROWS (R173). -/
def execInvShiftRows (s : State) : Result := .next (writeState (invShiftRows s.state) s)

/-- MIX_COLUMNS (R174). -/
def execMixColumns (s : State) : Result := .next (writeState (mixColumns s.state) s)

/-- INV_MIX_COLUMNS (R175). -/
def execInvMixColumns (s : State) : Result := .next (writeState (invMixColumns s.state) s)

/-- ADD_ROUND_KEY (R176): NO_KEY is checked before BAD_OPERAND. -/
def execAddRoundKey (n : Byte) (s : State) : Result :=
  if !s.keyValid then .next (raise .noKey s)
  else if n.toNat > s.nr.count then .next (raise .badOperand s)
  else .next (writeState (addRoundKey s.state (roundKey s.rkw n.toNat)) s)

end Sys2Proof.Machine
end

