-- ==== Sys2Proof/Machine/BlockCipher.lean ====
section
/-! DEFINITION. The block cipher and its inverse (44_block_cipher.md R190, R191): ENC_BLOCK and DEC_BLOCK. -/

namespace Sys2Proof.Machine

/-- One full round of Cipher under the round key `k` (R190). -/
def encRound (s k : Block) : Block := addRoundKey (mixColumns (shiftRows (subBytes s))) k

/-- One full round of InvCipher under the round key `k` (R191). -/
def decRound (s k : Block) : Block := invSubBytes (invShiftRows (invMixColumns (addRoundKey s k)))

/-- The rounds 1 .. Nr-1, in order. -/
def innerRounds (nr : Nat) : List Nat := List.range' 1 (nr - 1)

/-- Cipher(x, Nr, RK) (R190). -/
def cipher (nr : Nat) (rk : Nat → Block) (x : Block) : Block :=
  let s := (innerRounds nr).foldl (fun s round => encRound s (rk round)) (addRoundKey x (rk 0))
  addRoundKey (shiftRows (subBytes s)) (rk nr)

/-- InvCipher(y, Nr, RK) (R191). -/
def invCipher (nr : Nat) (rk : Nat → Block) (y : Block) : Block :=
  let s := invSubBytes (invShiftRows (addRoundKey y (rk nr)))
  addRoundKey ((innerRounds nr).reverse.foldl (fun s round => decRound s (rk round)) s) (rk 0)

/-- Cipher under the schedule the core holds. -/
def encryptBlock (s : State) (x : Block) : Block := cipher s.nr.count (roundKey s.rkw) x

/-- InvCipher under the schedule the core holds. -/
def decryptBlock (s : State) (y : Block) : Block := invCipher s.nr.count (roundKey s.rkw) y

/-- ENC_BLOCK (R193). -/
def execEncBlock (s : State) : Result :=
  if !s.keyValid then .next (raise .noKey s) else .next (writeState (encryptBlock s s.state) s)

/-- DEC_BLOCK (R194). -/
def execDecBlock (s : State) : Result :=
  if !s.keyValid then .next (raise .noKey s) else .next (writeState (decryptBlock s s.state) s)

end Sys2Proof.Machine
end

