-- ==== Sys2Proof/Machine/Padding.lean ====
section
/-! DEFINITION. PKCS#7 padding of one block (45_padding.md R212, R213): PAD_ADD and PAD_CHECK. -/

namespace Sys2Proof.Machine

/-- PadFill(x, n) (R212). -/
def padFill (x : Block) (n : Nat) : Block := Vector.ofFn fun k => if k.val < n then x[k] else BitVec.ofNat 8 (16 - n)

/-- PadCheck(x) (R213): the number of data bytes, or `none` for InvalidPadding. -/
def padCheck (x : Block) : Option Nat :=
  let p := x[15].toNat
  if p < 1 ∨ p > 16 then none
  else if (List.range' (16 - p) p).all fun k => x.getD k 0 = x[15] then some (16 - p)
  else none

/-- PAD_ADD (R215). -/
def execPadAdd (n : Byte) (s : State) : Result :=
  if n.toNat > 15 then .next (raise .badOperand s) else .next (writeState (padFill s.state n.toNat) s)

/-- PAD_CHECK (R216): STATE is not changed (92_eei_decisions.md D44). -/
def execPadCheck (s : State) : Result :=
  match padCheck s.state with
  | none => .next (raise .invalidPadding s)
  | some r => .next (writeResult (BitVec.ofNat 8 r) s)

end Sys2Proof.Machine
end

