-- ==== Sys2Proof/Machine/Message.lean ====
section
/-! DEFINITION. The ECB/CBC message controller (46_modes.md R234 to R239): MSG_START, MSG_BLOCK, MSG_ABORT. -/

namespace Sys2Proof.Machine

/-- The first check of R235 that fails, in its order. -/
def msgStartCheck (dir : Dir) (mode : Mode) (s : State) : Option ErrCode :=
  if s.msgActive then some .sequence
  else if !s.keyValid then some .noKey
  else if mode = .cbc ∧ s.ivWr ≠ 0b1111#4 then some .invalidIvLength
  else if dir = .dec ∧ s.msgLen.toNat % 16 ≠ 0 then some .invalidBlockLength
  else if dir = .dec ∧ s.msgLen = 0 then some .invalidPadding
  else none

/-- `C_0 = IV`, the IV consumed (R235); in ECB, CHAIN is 0 and the IV is left alone. -/
def loadChain (mode : Mode) (s : State) : State :=
  match mode with
  | .cbc => { s with chain := s.iv, iv := zeroBlock, ivWr := 0 }
  | .ecb => { s with chain := zeroBlock }

/-- MSG_REMAIN and MSG_TAIL of a message of MSG_LEN bytes (R235). -/
def loadCounts (dir : Dir) (s : State) : State :=
  match dir with
  | .enc => { s with msgRemain := BitVec.ofNat 29 (s.msgLen.toNat / 16 + 1), msgTail := BitVec.ofNat 4 (s.msgLen.toNat % 16) }
  | .dec => { s with msgRemain := BitVec.ofNat 29 (s.msgLen.toNat / 16), msgTail := 0 }

/-- The effect of a MSG_START whose checks pass (R235). -/
def beginMessage (dir : Dir) (mode : Mode) (s : State) : State :=
  writeDout zeroBlock 0
    (loadCounts dir (loadChain mode { s with msgActive := true, msgDir := dir, msgMode := mode }))

/-- MSG_START (R235). -/
def execMsgStart (a : Byte) (s : State) : Result :=
  match msgStartCheck (msgDirOf a) (msgModeOf a) s with
  | some c => .next (raise c s)
  | none => .next (beginMessage (msgDirOf a) (msgModeOf a) s)

/-- The last lines of R236: one block fewer to go, and the message ends with its last block. -/
def countBlock (s : State) : State :=
  let t := { s with msgRemain := s.msgRemain - 1 }
  if t.msgRemain = 0 then endMessage t else t

/-- `x ^ CHAIN` in CBC, `x` in ECB (R236). -/
def chainXor (s : State) (x : Block) : Block :=
  match s.msgMode with
  | .cbc => xorBlock x s.chain
  | .ecb => x

/-- `CHAIN <- c` in CBC (R236). -/
def setChain (c : Block) (s : State) : State :=
  match s.msgMode with
  | .cbc => { s with chain := c }
  | .ecb => s

/-- The active message's next block is its last (R236). -/
def lastBlock (s : State) : Bool := s.msgRemain = 1

/-- MSG_BLOCK of an encryption (R236). -/
def encryptMsgBlock (s : State) : State :=
  let x := if lastBlock s then padFill s.din s.msgTail.toNat else s.din
  let y := encryptBlock s (chainXor s x)
  countBlock (writeDout y 16 (setChain y s))

/-- MSG_BLOCK of a decryption (R236): C_i is the original ciphertext block. -/
def decryptMsgBlock (s : State) : State :=
  let x := chainXor s (decryptBlock s s.din)
  let t := setChain s.din s
  if lastBlock s then
    match padCheck x with
    | none => paddingFailure t
    | some r => countBlock (writeDout x (BitVec.ofNat 5 r) t)
  else countBlock (writeDout x 16 t)

/-- MSG_BLOCK (R236). -/
def execMsgBlock (s : State) : Result :=
  if !s.msgActive then .next (raise .sequence s)
  else
    match s.msgDir with
    | .enc => .next (encryptMsgBlock s)
    | .dec => .next (decryptMsgBlock s)

/-- MSG_ABORT (R239): without an active message it does nothing. -/
def execMsgAbort (s : State) : Result :=
  if s.msgActive then .next { endMessage s with doutBytes := 0 } else .next s

end Sys2Proof.Machine
end

