-- ==== Sys2Proof/Machine/Dispatch.lean ====
section
/-! DEFINITION. One arm for each command: the `perform` of 40_control.md R100, R101, which runs with the gate open
and the word decoded. -/

namespace Sys2Proof.Machine

def exec (i : Instr) (s : State) : Host.Outcome State Fault Refusal :=
  match i with
  | .nop => Sys2Proof.Machine.execNop s
  | .clrErr => Sys2Proof.Machine.execClrErr s
  | .gfMul a b => Sys2Proof.Machine.execGfMul a b s
  | .sbox x => Sys2Proof.Machine.execSbox x s
  | .invSbox y => Sys2Proof.Machine.execInvSbox y s
  | .keyExpand len => Sys2Proof.Machine.execKeyExpand len s
  | .subBytes => Sys2Proof.Machine.execSubBytes s
  | .invSubBytes => Sys2Proof.Machine.execInvSubBytes s
  | .shiftRows => Sys2Proof.Machine.execShiftRows s
  | .invShiftRows => Sys2Proof.Machine.execInvShiftRows s
  | .mixColumns => Sys2Proof.Machine.execMixColumns s
  | .invMixColumns => Sys2Proof.Machine.execInvMixColumns s
  | .addRoundKey n => Sys2Proof.Machine.execAddRoundKey n s
  | .encBlock => Sys2Proof.Machine.execEncBlock s
  | .decBlock => Sys2Proof.Machine.execDecBlock s
  | .padAdd n => Sys2Proof.Machine.execPadAdd n s
  | .padCheck => Sys2Proof.Machine.execPadCheck s
  | .msgStart a => Sys2Proof.Machine.execMsgStart a s
  | .msgBlock => Sys2Proof.Machine.execMsgBlock s
  | .msgAbort => Sys2Proof.Machine.execMsgAbort s

end Sys2Proof.Machine
end

