-- ==== Sys2Proof/Machine/Execute.lean ====
section
/-! DEFINITION. Performing the pending command (40_control.md R100): the gate, decoding, the command, and the end of
the completion. -/

namespace Sys2Proof.Machine

/-- A word that the gate discards, or, when it decodes as CLR_ERR, lets through (R100, 60_exceptions.md R274). -/
def executeGateClosed (w : Word) (s : State) : Result :=
  match decode w with
  | .ok .clrErr => exec .clrErr s
  | _ => .next s

/-- A word with the gate open: it runs, or, when it does not decode, raises ILLEGAL_COMMAND (R100, 30_encoding.md R85). -/
def executeGateOpen (w : Word) (s : State) : Result :=
  match decode w with
  | .ok i => exec i s
  | .error _ => .next (raise .illegalCommand s)

/-- `Execute(cmd)` (R100). -/
def execute (w : Word) (s : State) : Result := if gateClosed s then executeGateClosed w s else executeGateOpen w s

/-- The outcome `o` with its state passed through `f`. -/
def mapNext (f : State → State) : Result → Result
  | .next s => .next (f s)
  | .fault r => .fault r
  | .refused r => .refused r

/-- `CoreComplete` (R100), for a state with BUSY = 1. -/
def coreComplete (s : State) : Result := mapNext retire (execute s.pending s)

end Sys2Proof.Machine
end

