-- ==== Sys2Proof/Machine/Events.lean ====
section
/-! DEFINITION. The machine's steps (00_scope.md R8): a host read, a host write, a completion, a reset. Step.lean
takes one of them; a list of them is run here. -/

namespace Sys2Proof.Machine

/-- One step of R8. A `complete` event is enabled only while BUSY = 1. -/
def performEvent (e : Event) (s : State) : Result :=
  match e with
  | .read off size => .next (answer (busRead off size s) s)
  | .write off size v => .next (answer (busWriteReply off size) (busWrite off size v s))
  | .complete => if s.busy then coreComplete s else .fault .completionNotEnabled
  | .reset => .next (resetCore s)

/-- The step when the environment has nothing more in store: a busy core completes, since every issued command does
(70_reset_and_hazards.md R309), and an idle core does nothing (60_exceptions.md R286). -/
def performUnprompted (s : State) : Result := if s.busy then coreComplete s else .next s

/-- The next step: the environment's next event, taken off `inputs`, or the core's own. -/
def nextStep (s : State) : Result :=
  match s.inputs with
  | [] => performUnprompted s
  | e :: rest => performEvent e { s with inputs := rest }

/-- A list of events in order, up to the first that is not enabled. -/
def runEvents : List Event → State → Result
  | [], s => .next s
  | e :: es, s =>
    match performEvent e s with
    | .next t => runEvents es t
    | .fault r => .fault r
    | .refused r => .refused r

/-- The state in which the next step is the completion of the word `w`: it stands in PENDING with BUSY = 1, as after
a write of it to CMD (10_state.md R25), and the completion is the next event. -/
def placeCommand (w : Word) (s : State) : State := { issue w s with inputs := .complete :: s.inputs }

end Sys2Proof.Machine
end

