-- ==== Sys2Proof/Machine/Step.lean ====
section
/-! DEFINITION. One step of the machine, and where it takes its next command from. -/

namespace Sys2Proof.Machine

/-- One step (00_scope.md R8). -/
def step (s : State) : Host.Outcome State Fault Refusal := nextStep s

/-- The state whose next step fetches and runs the command word `w` of `nbits` bits: the core fetches from PENDING
(10_state.md R43, R64 of 20_memory.md), so this stands for the host's write of `w` to CMD (log entry 7). -/
def State.withFetchWord (s : State) (nbits w : Nat) : State := placeCommand (BitVec.ofNat 32 (w % 2 ^ nbits)) s

end Sys2Proof.Machine
end

