-- ==== Sys2Proof/Machine/Asm.lean ====
section
/-! DEFINITION. The command syntax of 30_encoding.md R87: a command as text, the assembler and the disassembler. R87
leaves open how much white space may stand between tokens and which case a hex digit has (log entry 8). -/

namespace Sys2Proof.Machine

/-- The sixteen digits, in the case the disassembler prints. -/
def printedDigits : List Char := "0123456789ABCDEF".toList

/-- The digit of a value below 16. -/
def digitChar (n : Nat) : Char := printedDigits.getD n '0'

/-- The value of a hex digit: its place among the digits, in the one case or the other (log entry 8). -/
def digitValue (c : Char) : Option Nat :=
  match printedDigits.idxOf? c with
  | some n => some n
  | none => "0123456789abcdef".toList.idxOf? c

/-- The low `n` hex digits of a number, most significant first. -/
def hexDigits : Nat → Nat → List Char
  | 0, _ => []
  | n + 1, v => hexDigits n (v / 16) ++ [digitChar (v % 16)]

/-- A byte in `0x` hex. -/
def hexText (b : Byte) : List Char := '0' :: 'x' :: hexDigits 2 b.toNat

/-- A byte in decimal. -/
def decText (b : Byte) : List Char :=
  let v := b.toNat
  (if v < 100 then [] else [digitChar (v / 100)]) ++ (if v < 10 then [] else [digitChar (v / 10 % 10)])
    ++ [digitChar (v % 10)]

/-- MSG_START's `dir` (R87). -/
def dirText : Dir → List Char
  | .enc => "ENC".toList
  | .dec => "DEC".toList

/-- MSG_START's `mode` (R87). -/
def modeText : Mode → List Char
  | .ecb => "ECB".toList
  | .cbc => "CBC".toList

/-- The operands as text, in the order of R87. Lengths and counts are in decimal, data bytes in hex. -/
def operandTexts : Instr → List (List Char)
  | .gfMul a b => [hexText a, hexText b]
  | .sbox x | .invSbox x => [hexText x]
  | .keyExpand n | .addRoundKey n | .padAdd n => [decText n]
  | .msgStart a => [dirText (msgDirOf a), modeText (msgModeOf a)]
  | .nop | .clrErr | .subBytes | .invSubBytes | .shiftRows | .invShiftRows | .mixColumns | .invMixColumns | .encBlock
  | .decBlock | .padCheck | .msgBlock | .msgAbort => []

/-- `MNEMONIC`, `MNEMONIC a` or `MNEMONIC a, b` (R87). -/
def render (i : Instr) : List Char :=
  match operandTexts i with
  | [] => i.mnemonic.toList
  | [x] => i.mnemonic.toList ++ ' ' :: x
  | x :: y :: _ => i.mnemonic.toList ++ ' ' :: x ++ ',' :: ' ' :: y

/-- The disassembler (R87): an illegal word prints as `.word 0xXXXXXXXX`. -/
def disassemble (w : Word) : String :=
  match decode w with
  | .ok i => String.ofList (render i)
  | .error _ => String.ofList (".word 0x".toList ++ hexDigits 8 w.toNat)

/-- The number the digits write in base `base`; no digit, or one out of range, is no number. -/
def parseDigits (base : Nat) : Option Nat → List Char → Option Nat
  | acc, [] => acc
  | acc, c :: cs =>
    match digitValue c with
    | none => none
    | some d => if d < base then parseDigits base (some (acc.getD 0 * base + d)) cs else none

/-- An operand in decimal or `0x` hex (R87); it must fit a byte. -/
def parseByte (t : List Char) : Option Byte :=
  let v := match t with
    | '0' :: 'x' :: ds => parseDigits 16 none ds
    | ds => parseDigits 10 none ds
  match v with
  | some n => if n < 256 then some (BitVec.ofNat 8 n) else none
  | none => none

/-- `ENC` or `DEC`. -/
def parseDir (t : List Char) : Option Dir :=
  if t = "ENC".toList then some .enc else if t = "DEC".toList then some .dec else none

/-- `ECB` or `CBC`. -/
def parseMode (t : List Char) : Option Mode :=
  if t = "ECB".toList then some .ecb else if t = "CBC".toList then some .cbc else none

/-- Without the spaces at the front. -/
def skipSpaces (t : List Char) : List Char := t.dropWhile fun c => c = ' '

/-- The characters up to the first space, and those after it. -/
def firstToken : List Char → List Char × List Char
  | [] => ([], [])
  | c :: cs => if c = ' ' then ([], cs) else (c :: (firstToken cs).1, (firstToken cs).2)

/-- The pieces between commas, each without surrounding spaces; no text is no piece. -/
def operandTokens (t : List Char) : List (List Char) :=
  match skipSpaces t with
  | [] => []
  | u => (u.splitOn ',').map fun p => (skipSpaces (skipSpaces p).reverse).reverse

/-- The command with a mnemonic and no operand (R84, R87). -/
def parsePlain (m : List Char) : Option Instr :=
  [Instr.nop, .clrErr, .subBytes, .invSubBytes, .shiftRows, .invShiftRows, .mixColumns, .invMixColumns, .encBlock,
    .decBlock, .padCheck, .msgBlock, .msgAbort].find? fun i => i.mnemonic.toList = m

/-- The command with a mnemonic and one operand byte (R84, R87). -/
def parseOneByte (m : List Char) (n : Byte) : Option Instr :=
  [Instr.sbox n, .invSbox n, .keyExpand n, .addRoundKey n, .padAdd n].find? fun i => i.mnemonic.toList = m

/-- The command with a mnemonic and two operands (R84, R87). -/
def parseTwo (m x y : List Char) : Option Instr :=
  if m = "GF_MUL".toList then
    match parseByte x, parseByte y with
    | some a, some b => some (.gfMul a b)
    | _, _ => none
  else if m = "MSG_START".toList then
    match parseDir x, parseMode y with
    | some d, some md => some (.msgStart (msgStartOperand d md))
    | _, _ => none
  else none

/-- A command's text read (R87). -/
def parse (t : List Char) : Option Instr :=
  let u := firstToken (skipSpaces t)
  match operandTokens u.2 with
  | [] => parsePlain u.1
  | [x] =>
    match parseByte x with
    | some n => parseOneByte u.1 n
    | none => none
  | [x, y] => parseTwo u.1 x y
  | _ => none

/-- The assembler (R87). -/
def assemble (t : String) : Option Word :=
  match parse t.toList with
  | some i => some (encode i)
  | none => none

end Sys2Proof.Machine
end

