-- ==== Sys2Proof/Machine/Reference.lean ====
section
/-! DEFINITION. The reference functions of the source on whole byte strings: PKCS#7 (45_padding.md R210, R211),
ECB and CBC (46_modes.md R231 to R233), Encrypt and Decrypt (R230). No step uses them: they say what the message
controller computes block by block. -/

namespace Sys2Proof.Machine

/-- The source's four errors (60_exceptions.md R271). -/
inductive Failure where
  | invalidKeyLength
  | invalidIvLength
  | invalidBlockLength
  | invalidPadding
  deriving DecidableEq, Repr

/-- The hardware's code of a source error (46_modes.md R242: one to one). -/
def Failure.errCode : Failure → ErrCode
  | .invalidKeyLength => .invalidKeyLength
  | .invalidIvLength => .invalidIvLength
  | .invalidBlockLength => .invalidBlockLength
  | .invalidPadding => .invalidPadding

/-- PKCS7Add (R210). -/
def pkcs7Add (data : List Byte) : List Byte :=
  let padLen := 16 - data.length % 16
  data ++ List.replicate padLen (BitVec.ofNat 8 padLen)

/-- PKCS7Remove (R211); `none` is InvalidPadding. -/
def pkcs7Remove (data : List Byte) : Option (List Byte) :=
  match data.getLast? with
  | none => none
  | some last =>
    let p := last.toNat
    if p < 1 ∨ p > 16 then none
    else if p > data.length then none
    else if (data.drop (data.length - p)).all fun b => b = last then some (data.take (data.length - p))
    else none

/-- The first `m` 16-byte blocks of a byte string. -/
def blocksOf (m : Nat) (d : List Byte) : List Block := (List.range m).map fun i => blockAt d i 0

/-- The byte string of a sequence of blocks. -/
def joinBlocks (bs : List Block) : List Byte := bs.flatMap blockBytes

/-- CBC encryption from the chaining value `c` (R232). -/
def cbcEncrypt (enc : Block → Block) : Block → List Block → List Block
  | _, [] => []
  | c, x :: xs => enc (xorBlock x c) :: cbcEncrypt enc (enc (xorBlock x c)) xs

/-- CBC decryption from the chaining value `c` (R233): the next one is the original ciphertext block. -/
def cbcDecrypt (dec : Block → Block) : Block → List Block → List Block
  | _, [] => []
  | c, y :: ys => xorBlock (dec y) c :: cbcDecrypt dec y ys

/-- A mode's encryption of a sequence of blocks (R231, R232). -/
def encryptBlocks (mode : Mode) (enc : Block → Block) (iv : Block) (xs : List Block) : List Block :=
  match mode with
  | .ecb => xs.map enc
  | .cbc => cbcEncrypt enc iv xs

/-- A mode's decryption of a sequence of blocks (R231, R233). -/
def decryptBlocks (mode : Mode) (dec : Block → Block) (iv : Block) (ys : List Block) : List Block :=
  match mode with
  | .ecb => ys.map dec
  | .cbc => cbcDecrypt dec iv ys

/-- The Nk words of a key (42_key_schedule.md R144). -/
def wordsOfKey (k : List Byte) : List Word :=
  (List.range (k.length / 4)).map fun i =>
    packWord (k.getD (4 * i) 0) (k.getD (4 * i + 1) 0) (k.getD (4 * i + 2) 0) (k.getD (4 * i + 3) 0)

/-- The store that the schedule of a key fills (R144, R146). -/
def scheduleOfKey (r : Rounds) (k : List Byte) : Vector Word 60 := storeOf (keyExpansion r (wordsOfKey k))

/-- The IV that a call uses: 16 bytes are needed in CBC, none are looked at in ECB (R230). -/
def usableIv (mode : Mode) (iv : Option (List Byte)) : Except Failure Block :=
  match mode, iv with
  | .ecb, _ => .ok zeroBlock
  | .cbc, none => .error .invalidIvLength
  | .cbc, some v => if v.length = 16 then .ok (blockAt v 0 0) else .error .invalidIvLength

/-- Encrypt (R230): the checks in its order, then padding, blocks and chaining. -/
def encryptRef (k : List Byte) (mode : Mode) (iv : Option (List Byte)) (p : List Byte) : Except Failure (List Byte) :=
  match roundsOfLength k.length with
  | none => .error .invalidKeyLength
  | some r =>
    match usableIv mode iv with
    | .error e => .error e
    | .ok c0 =>
      .ok (joinBlocks (encryptBlocks mode (cipher r.count (roundKey (scheduleOfKey r k))) c0
        (blocksOf (p.length / 16 + 1) (pkcs7Add p))))

/-- Decrypt (R230). -/
def decryptRef (k : List Byte) (mode : Mode) (iv : Option (List Byte)) (c : List Byte) : Except Failure (List Byte) :=
  match roundsOfLength k.length with
  | none => .error .invalidKeyLength
  | some r =>
    match usableIv mode iv with
    | .error e => .error e
    | .ok c0 =>
      if c.length % 16 ≠ 0 then .error .invalidBlockLength
      else
        match pkcs7Remove (joinBlocks (decryptBlocks mode (invCipher r.count (roundKey (scheduleOfKey r k))) c0
            (blocksOf (c.length / 16) c))) with
        | none => .error .invalidPadding
        | some p => .ok p

end Sys2Proof.Machine
end

