-- ==== Sys2Proof/Machine/HostProcedures.lean ====
section
/-! DEFINITION. The host's side: the host operations of 30_encoding.md R88 as bus transactions, and the procedures
ENCRYPT_MSG and DECRYPT_MSG (46_modes.md R240, R241) that drive the core with them. They are programs OF the core's
user, not part of its step. -/

namespace Sys2Proof.Machine

/-- A host operation (R88). `cmd` carries how often WAIT reads BUSY = 1 before the completion: LAT(cmd) is open
(70_reset_and_hazards.md R310). -/
inductive HostOp where
  | wr (r : Reg) (v : Word)
  | rd (r : Reg)
  | cmd (w : Word) (polls : Nat)
  deriving DecidableEq, Repr

/-- A 16-byte register the host writes or reads as a block. -/
inductive BlockReg where
  | iv
  | chain
  | state
  | din
  | dout
  deriving DecidableEq, Repr

/-- Word `j` of the block register. -/
def BlockReg.word (x : BlockReg) (j : Fin 4) : Reg :=
  match x with
  | .iv => .iv j
  | .chain => .chain j
  | .state => .state j
  | .din => .din j
  | .dout => .dout j

/-- WRBLK X (R88): four writes, X0 first. -/
def wrblk (x : BlockReg) (b : Block) : List HostOp := (List.finRange 4).map fun j => .wr (x.word j) (regWord b j)

/-- RDBLK X (R88): four reads, X0 first. -/
def rdblk (x : BlockReg) : List HostOp := (List.finRange 4).map fun j => .rd (x.word j)

/-- WRBLK KEY (R88): the key's words from KEY0 upward. -/
def wrKey (k : List Byte) : List HostOp :=
  ((List.finRange 8).take (k.length / 4)).map fun j => .wr (.key j) ((wordsOfKey k).getD j.val 0)

/-- A read of a register as a transaction (R88). -/
def readEvent (r : Reg) : Event := .read r.offset 32

/-- The transactions of an operation, with the completion that falls among them (R88). -/
def HostOp.events : HostOp → List Event
  | .wr r v => [.write r.offset 32 v]
  | .rd r => [readEvent r]
  | .cmd w polls =>
    .write Reg.cmd.offset 32 w :: List.replicate polls (readEvent .status) ++ [.complete, readEvent .status]

/-- The operations in order. -/
def runOps (ops : List HostOp) (s : State) : Result := runEvents (ops.flatMap HostOp.events) s

/-- The value of the host's last read. -/
def lastData (s : State) : Word :=
  match s.replies with
  | .data v :: _ => v
  | _ => 0

/-- The values of the host's last four reads, the first of them first, as bytes (R88: "concatenated as bytes"). -/
def lastBlockRead (s : State) : List Byte :=
  (s.replies.take 4).reverse.flatMap fun r =>
    match r with
    | .data v => [wordByte v 0, wordByte v 1, wordByte v 2, wordByte v 3]
    | .ok | .busError => []

/-- ERR of a STATUS word the host has read. -/
def errField (w : Word) : BitVec 4 := w.extractLsb' 8 4

/-- DOUT_BYTES of a STATUS word the host has read. -/
def doutBytesField (w : Word) : Nat := (w.extractLsb' 16 5).toNat

/-- What a host procedure leaves: the machine, and the bytes it returns or the error code it fails with. -/
abbrev HostRun := Host.Outcome (State × Except (BitVec 4) (List Byte)) Fault Refusal

/-- Go on with `k` from the machine's next state. -/
def thenHost (o : Result) (k : State → HostRun) : HostRun :=
  match o with
  | .next s => k s
  | .fault r => .fault r
  | .refused r => .refused r

/-- "if mode = CBC: WRBLK IV, iv" (R240, R241). The procedures take an IV of 16 bytes in either mode. What they do in
CBC without one the spec leaves open: that call is left out, which is the model's choice (log entry 13). -/
def ivOps (mode : Mode) (iv : Block) : List HostOp :=
  match mode with
  | .ecb => []
  | .cbc => wrblk .iv iv

/-- The opening of both procedures: IV, MSG_LEN, MSG_START, and a read of STATUS (R240, R241). -/
def startOps (dir : Dir) (mode : Mode) (iv : Block) (len polls : Nat) : List HostOp :=
  ivOps mode iv ++
    [.wr .msgLen (BitVec.ofNat 32 len), .cmd (encode (.msgStart (msgStartOperand dir mode))) polls, .rd .status]

/-- What the host writes to DIN for plaintext block `k` (R240): the data, and any bytes past its end. -/
def dinBlock (p : List Byte) (fill : Nat → Byte) (k : Nat) : Block :=
  Vector.ofFn fun j => p.getD (16 * k + j.val) (fill (16 * k + j.val))

/-- The operations for plaintext block `k` (R240). When it holds no data byte, DIN is not written. -/
def encryptBlockOps (p : List Byte) (fill : Nat → Byte) (k polls : Nat) : List HostOp :=
  (if p.length - 16 * k > 0 then wrblk .din (dinBlock p fill k) else []) ++ .cmd (encode .msgBlock) polls :: rdblk .dout

/-- The loop of R240 over the block numbers `ks`; `out` is C so far. -/
def encryptLoop (p : List Byte) (fill : Nat → Byte) (lat : Nat → Nat) : List Nat → List Byte → State → HostRun
  | [], out, s => .next (s, .ok out)
  | k :: ks, out, s =>
    thenHost (runOps (encryptBlockOps p fill k (lat (k + 1))) s) fun t =>
      encryptLoop p fill lat ks (out ++ lastBlockRead t) t

/-- ENCRYPT_MSG(mode, iv, P) (R240). `lat` gives the polls each command takes: 0 is MSG_START, k + 1 block k. There is no
call with an absent iv (the model's choice, log entry 13). -/
def encryptMsg (mode : Mode) (iv : Block) (p : List Byte) (fill : Nat → Byte) (lat : Nat → Nat) (s : State) : HostRun :=
  thenHost (runOps (startOps .enc mode iv p.length (lat 0)) s) fun t =>
    if errField (lastData t) ≠ 0 then .next (t, .error (errField (lastData t)))
    else encryptLoop p fill lat (List.range (p.length / 16 + 1)) [] t

/-- The operations for ciphertext block `k` up to its status check (R241). -/
def decryptBlockOps (c : List Byte) (k polls : Nat) : List HostOp :=
  wrblk .din (blockAt c k 0) ++ [.cmd (encode .msgBlock) polls, .rd .status]

/-- The loop of R241 over the block numbers `ks`; `out` is the plaintext so far, discarded on INVALID_PADDING (R243). -/
def decryptLoop (c : List Byte) (lat : Nat → Nat) : List Nat → List Byte → State → HostRun
  | [], out, s => .next (s, .ok out)
  | k :: ks, out, s =>
    thenHost (runOps (decryptBlockOps c k (lat (k + 1))) s) fun t =>
      if errField (lastData t) = ErrCode.invalidPadding.code then .next (t, .error ErrCode.invalidPadding.code)
      else
        thenHost (runOps (rdblk .dout) t) fun u =>
          decryptLoop c lat ks (out ++ (lastBlockRead u).take (doutBytesField (lastData t))) u

/-- DECRYPT_MSG(mode, iv, C) (R241). There is no call with an absent iv (the model's choice, log entry 13). -/
def decryptMsg (mode : Mode) (iv : Block) (c : List Byte) (lat : Nat → Nat) (s : State) : HostRun :=
  thenHost (runOps (startOps .dec mode iv c.length (lat 0)) s) fun t =>
    if errField (lastData t) ≠ 0 then .next (t, .error (errField (lastData t)))
    else decryptLoop c lat (List.range (c.length / 16)) [] t

end Sys2Proof.Machine
end

