-- ==== Sys2Proof/Safety.lean ====
section
/-! DEFINITION. What holds of the core in every state it reaches, in the terms the statements use: the controller
invariants of 46_modes.md R234 and the field values of 10_state.md R23, R34, R36 and R43. -/

namespace Sys2Proof.Machine

/-- 46_modes.md R234, its four invariants of the message controller. -/
def State.controllerInv (s : State) : Bool :=
  (!s.msgActive || (s.keyValid && decide (s.msgRemain ≠ 0)))
    && (s.msgActive || decide (s.msgDir = .enc ∧ s.msgMode = .ecb ∧ s.msgRemain = 0 ∧ s.msgTail = 0 ∧ s.chain = zeroBlock))
    && (decide (s.msgMode = .cbc) || decide (s.chain = zeroBlock))
    && (decide (s.msgDir = .enc) || decide (s.msgTail = 0))

/-- 10_state.md R23: NR is 0 exactly when KEY_VALID is 0, and DOUT_BYTES is at most 16. -/
def State.statusInv (s : State) : Bool :=
  decide (s.nr = .none ↔ s.keyValid = false) && decide (s.doutBytes.toNat ≤ 16)

/-- 10_state.md R36: the store is zero beyond the words of the schedule held, and whole when none is held. -/
def State.storeInv (s : State) : Bool :=
  (List.range 60).all fun i => (s.keyValid && decide (i < 4 * (s.nr.count + 1))) || decide (s.rkw.getD i 0 = 0)

/-- 10_state.md R43 and 46_modes.md R235: PENDING is 0 while the core is idle, and no message has more than 2^28
blocks. -/
def State.latchInv (s : State) : Bool :=
  (s.busy || decide (s.pending = 0)) && decide (s.msgRemain.toNat ≤ 0x10000000)

/-- The invariant of the core. -/
def State.Inv (s : State) : Prop := (s.controllerInv && s.statusInv && s.storeInv && s.latchInv) = true

/-- 10_state.md R22, KEY_VALID: the store holds the schedule of some key of the held round count. -/
def State.ScheduleHeld (s : State) : Prop :=
  s.keyValid = true →
    ∃ (key : Vector Byte 32) (len : Nat),
      roundsOfLength len = some s.nr ∧ s.rkw = storeOf (keyExpansion s.nr (keyWordsOf key len))

/-- A step that is taken: the next event is one that 00_scope.md R8 enables. -/
def State.enabled (s : State) : Bool :=
  match s.inputs with
  | .complete :: _ => s.busy
  | [] | .read _ _ :: _ | .write _ _ _ :: _ | .reset :: _ => true

/-- The word in PENDING is performed by the next step (40_control.md R100). -/
def State.completesNext (s : State) : Bool :=
  s.busy && (match s.inputs with
    | [] | .complete :: _ => true
    | .read _ _ :: _ | .write _ _ _ :: _ | .reset :: _ => false)

end Sys2Proof.Machine
end

