-- ==== Sys2Proof/Certificates/Slice0/Obligations.lean ====
section
/-! DEFINITION. The statements about the core. Each docstring names the rule of spec/ it formalises. A result is
stated as the next state written out from the state before it, so that it says its frame too: every field not named
is as it was. -/

namespace Sys2Proof.Machine

/-! ### Words the statements share -/

/-- `OPC | (A << 8) | (B << 16)` (R84). -/
def fieldWord (opc a b : Byte) : Word := opc.setWidth 32 ||| (a.setWidth 32 <<< 8) ||| (b.setWidth 32 <<< 16)

/-- Every word with this opcode that is not one of the words `ok` raises ILLEGAL_COMMAND with the gate open, and has
no other effect (R85, R100). -/
def IllegalUnless (opc : Byte) (ok : Word → Prop) : Prop :=
  ∀ (w : Word) (s : State), opcField w = opc → ¬ ok w → gateClosed s = false →
    execute w s = .next { s with err := .illegalCommand }

/-- The one word of a command without operands. -/
def PlainWord (opc : Byte) (w : Word) : Prop := w = fieldWord opc 0 0

/-- The words of a command with the operand A alone. -/
def OneByteWord (opc : Byte) (w : Word) : Prop := ∃ a : Byte, w = fieldWord opc a 0

/-- The mapped offsets, as R53 lists them. -/
def MappedOffset (off : Nat) : Prop :=
  off ∈ [0x000, 0x004, 0x008, 0x00C, 0x010, 0x014, 0x018] ∨
    (off % 4 = 0 ∧ 0x020 ≤ off ∧ off ≤ 0x08C) ∨ (off % 4 = 0 ∧ 0x100 ≤ off ∧ off ≤ 0x1EC)

/-- Word `j` of a register of bytes: bytes 4j..4j+3, the first of them in bits [31:24] (R11, R56). -/
def bytesOfWord {n : Nat} (x : Vector Byte n) (j : Nat) : Word :=
  x.getD (4 * j) 0 ++ x.getD (4 * j + 1) 0 ++ x.getD (4 * j + 2) 0 ++ x.getD (4 * j + 3) 0

/-- `w` is what a read at the offset `off` returns, by R54's list. -/
def ReadReturns (s : State) (off : Nat) (w : Word) : Prop :=
  (off = 0x000 ∧ w = 0x41455331) ∨ (off = 0x004 ∧ w = statusWord s) ∨ (off = 0x008 ∧ w = 0) ∨
    (off = 0x00C ∧ w.toNat = s.result.toNat) ∨ (off = 0x010 ∧ w = s.msgLen) ∨
    (off = 0x014 ∧ w.toNat = s.msgRemain.toNat) ∨ (off = 0x018 ∧ w.toNat = s.msgTail.toNat) ∨
    (∃ j < 8, off = 0x020 + 4 * j ∧ w = bytesOfWord s.key j) ∨
    (∃ j < 4, off = 0x040 + 4 * j ∧ w = bytesOfWord s.iv j) ∨
    (∃ j < 4, off = 0x050 + 4 * j ∧ w = bytesOfWord s.chain j) ∨
    (∃ j < 4, off = 0x060 + 4 * j ∧ w = bytesOfWord s.state j) ∨
    (∃ j < 4, off = 0x070 + 4 * j ∧ w = bytesOfWord s.din j) ∨
    (∃ j < 4, off = 0x080 + 4 * j ∧ w = bytesOfWord s.dout j) ∨
    (∃ i < 60, off = 0x100 + 4 * i ∧ w = s.rkw.getD i 0)

/-- `y` is `x` with the bytes of `v` in the bytes 4j..4j+3, the first of them from bits [31:24] (R56). -/
def StoresWord {n : Nat} (x : Vector Byte n) (j : Nat) (v : Word) (y : Vector Byte n) : Prop :=
  ∀ k : Fin n, y.get k = if k.val / 4 = j then v.extractLsb' (24 - 8 * (k.val % 4)) 8 else x.get k

/-- `t` is what an idle core's state `s` becomes by a write of `v` at the offset `off`, by R55's list. -/
def WriteLeaves (s : State) (off : Nat) (v : Word) (t : State) : Prop :=
  (off = 0x008 ∧ t = { s with pending := v, busy := true }) ∨ (off = 0x010 ∧ t = { s with msgLen := v }) ∨
    (∃ j < 8, off = 0x020 + 4 * j ∧ ∃ y, StoresWord s.key j v y ∧ t = { s with key := y }) ∨
    (∃ j < 4, off = 0x040 + 4 * j ∧ ∃ y, StoresWord s.iv j v y ∧
      t = { s with iv := y, ivWr := s.ivWr ||| (1#4 <<< j) }) ∨
    (∃ j < 4, off = 0x060 + 4 * j ∧ ∃ y, StoresWord s.state j v y ∧ t = { s with state := y }) ∨
    (∃ j < 4, off = 0x070 + 4 * j ∧ ∃ y, StoresWord s.din j v y ∧ t = { s with din := y }) ∨
    ((off ∈ [0x000, 0x004, 0x00C, 0x014, 0x018] ∨ (∃ j < 4, off = 0x050 + 4 * j ∨ off = 0x080 + 4 * j) ∨
      ∃ i < 60, off = 0x100 + 4 * i) ∧ t = s)

/-- From `s` and from `u` the command ends in the same error and writes nothing else. -/
def BothRaise (s u t v : State) : Prop := ∃ e, e ≠ .none ∧ t = { s with err := e } ∧ v = { u with err := e }

/-- From `s` and from `u` the command writes one and the same block to STATE, and nothing else. -/
def BothWriteState (s u t v : State) : Prop := ∃ b, t = { s with state := b } ∧ v = { u with state := b }

/-- From `s` and from `u` the command writes one and the same byte to RESULT, and nothing else. -/
def BothWriteResult (s u t v : State) : Prop := ∃ r, t = { s with result := r } ∧ v = { u with result := r }

/-- The next step is the completion of PENDING, with `rest` to come after it (R8, R100, R309). -/
def CompletionIsNext (s : State) (rest : List Event) : Prop :=
  s.busy = true ∧ (s.inputs = .complete :: rest ∨ (s.inputs = [] ∧ rest = []))

/-- The next step is a reset (R300). -/
def ResetIsNext (s : State) : Prop := ∃ rest, s.inputs = .reset :: rest

/-- An opcode of R84. -/
def assignedOpcodes : List Byte :=
  [0x00, 0x01, 0x08, 0x09, 0x0A, 0x10, 0x20, 0x21, 0x22, 0x23, 0x24, 0x25, 0x26, 0x30, 0x31, 0x40, 0x41, 0x50, 0x51,
    0x52]

/-- The opcodes of R84 with an operand A. -/
def opcodesWithA : List Byte := [0x08, 0x09, 0x0A, 0x10, 0x26, 0x40, 0x50]

/-- The words that R85 calls illegal, by its list: an unassigned opcode, RSV not 0, an unused field not 0, or
MSG_START with A[7:2] not 0. -/
def IllegalWord (w : Word) : Prop :=
  let opc := (opcField w).toNat
  (0x02 ≤ opc ∧ opc ≤ 0x07) ∨ (0x0B ≤ opc ∧ opc ≤ 0x0F) ∨ (0x11 ≤ opc ∧ opc ≤ 0x1F) ∨ (0x27 ≤ opc ∧ opc ≤ 0x2F) ∨
    (0x32 ≤ opc ∧ opc ≤ 0x3F) ∨ (0x42 ≤ opc ∧ opc ≤ 0x4F) ∨ (0x53 ≤ opc ∧ opc ≤ 0xFF) ∨ rsvField w ≠ 0 ∨
    (opc ≠ 0x08 ∧ bField w ≠ 0) ∨ (opcField w ∉ opcodesWithA ∧ aField w ≠ 0) ∨
    (opc = 0x50 ∧ (aField w).extractLsb' 2 6 ≠ 0)

/-- The recurrence of R144 over the words `w`, for a key of `nk` words and `nr` rounds: the key's own words, then
each word from the one before it and the one `nk` before it. -/
def IsSchedule (nk nr : Nat) (key : Vector Byte 32) (w : Nat → Word) : Prop :=
  (∀ i < nk, w i = packWord (key.getD (4 * i) 0) (key.getD (4 * i + 1) 0) (key.getD (4 * i + 2) 0) (key.getD (4 * i + 3) 0)) ∧
  ∀ i, nk ≤ i → i < 4 * (nr + 1) →
    w i = w (i - nk) ^^^
      (if i % nk = 0 then
        packWord (sboxOf (wordByte (w (i - 1)) 1) ^^^ rcon (i / nk)) (sboxOf (wordByte (w (i - 1)) 2))
          (sboxOf (wordByte (w (i - 1)) 3)) (sboxOf (wordByte (w (i - 1)) 0))
      else if nk = 8 ∧ i % 8 = 4 then
        packWord (sboxOf (wordByte (w (i - 1)) 0)) (sboxOf (wordByte (w (i - 1)) 1)) (sboxOf (wordByte (w (i - 1)) 2))
          (sboxOf (wordByte (w (i - 1)) 3))
      else w (i - 1))

/-- The states after each round of Cipher (R190): the key addition, then the rounds 1 .. Nr-1. -/
def CipherRounds (nr : Nat) (rk : Nat → Block) (x : Block) (st : Nat → Block) : Prop :=
  st 0 = addRoundKey x (rk 0) ∧
  ∀ round, 1 ≤ round → round < nr →
    st round = addRoundKey (mixColumns (shiftRows (subBytes (st (round - 1))))) (rk round)

/-- The states of InvCipher (R191), counted down from Nr: before the rounds, then after each round Nr-1 .. 1. -/
def InvCipherRounds (nr : Nat) (rk : Nat → Block) (y : Block) (st : Nat → Block) : Prop :=
  st nr = invSubBytes (invShiftRows (addRoundKey y (rk nr))) ∧
  ∀ round, 1 ≤ round → round < nr →
    st round = invSubBytes (invShiftRows (invMixColumns (addRoundKey (st (round + 1)) (rk round))))

/-- The schedule in `s` was made by KEY_EXPAND with A = len(K) from KEY = K (R242). -/
def ScheduleMadeFrom (k : List Byte) (s : State) : Prop :=
  ∃ s0 s1 : State, (∀ i < k.length, s0.key.getD i 0 = k.getD i 0) ∧ s0.msgActive = false ∧
    exec (.keyExpand (BitVec.ofNat 8 k.length)) s0 = .next s1 ∧
    s.rkw = s1.rkw ∧ s.nr = s1.nr ∧ s.keyValid = s1.keyValid

/-- A key length that is accepted (R140). -/
def KeyLength (n : Nat) : Prop := n = 16 ∨ n = 24 ∨ n = 32

/-- The precondition of the host procedures (R240, R241). -/
def ReadyForMessage (s : State) : Prop :=
  s.busy = false ∧ s.err = .none ∧ s.ovr = false ∧ s.msgActive = false ∧ s.keyValid = true

/-- The carry-less product of two bytes, before any reduction: the product of the polynomials (R120). -/
def carrylessProduct (a b : Byte) : BitVec 16 :=
  (List.range 8).foldl (fun p i => if b.getLsbD i then p ^^^ (a.setWidth 16 <<< i) else p) 0

/-- The carry-less product of `q` and the reducing polynomial 0x11B (R120). -/
def modulusMultiple (q : Byte) : BitVec 16 :=
  (List.range 8).foldl (fun p i => if q.getLsbD i then p ^^^ (0x11B#16 <<< i) else p) 0

/-- A block from 16 bytes written as one number, byte 0 leftmost. -/
def hexBlock (v : BitVec 128) : Block := Vector.ofFn fun k => v.extractLsb' (120 - 8 * k.val) 8

/-- Row-and-byte permutations of R163 and R164. -/
def shiftRowsIndex : List Nat := [0, 5, 10, 15, 4, 9, 14, 3, 8, 13, 2, 7, 12, 1, 6, 11]

/-- See `shiftRowsIndex`. -/
def invShiftRowsIndex : List Nat := [0, 13, 10, 7, 4, 1, 14, 11, 8, 5, 2, 15, 12, 9, 6, 3]

end Sys2Proof.Machine

open Sys2Proof Sys2Proof.Machine

/-! ### Reset -/

/-- R301: after a `Reset` step every register reads its reset value, PENDING is 0, and the state meets the invariant
of R234 and R23. -/
def Obligations.ResetGivesEveryRegisterItsValue : Prop :=
  ∀ s : State, ∃ t : State,
    performEvent .reset s = .next t ∧
    (∀ r : Reg, readReg r t = if r = .id then 0x41455331 else 0) ∧
    t.pending = 0 ∧ t.controllerInv = true ∧ t.statusInv = true ∧
    t.key = Vector.replicate 32 0 ∧ t.rkw = Vector.replicate 60 0 ∧
    readReg .id State.reset = 0x41455331 ∧ (∀ r : Reg, r ≠ .id → readReg r State.reset = 0)

/-- R300, R302: a reset may fall at any point, also while a command is pending; the command has no effect at all, BUSY
and PENDING are 0, STATUS shows no key, and what is still to come and what was already read stay. -/
def Obligations.ResetDiscardsThePendingCommand : Prop :=
  ∀ (s : State) (rest : List Event), s.inputs = .reset :: rest →
    step s = .next { State.reset with inputs := rest, replies := s.replies }

/-! ### Performing the pending command -/

/-- The completion of PENDING, in R100's four cases. In each of them BUSY and PENDING are 0 afterwards, and the rest is
what the case says. The fifth clause is the model's own: R100 does not enable a completion while BUSY = 0, and the model
answers the fault completionNotEnabled to a schedule that asks for one (log entry 3). So is the second case of
`CompletionIsNext`, that a completion comes next once `inputs` is used up (log entry 5). -/
def Obligations.StepRunsThePendingCommand : Prop :=
  (∀ (s : State) (rest : List Event) (i : Instr), CompletionIsNext s rest → gateClosed s = false →
    decode s.pending = .ok i →
    ∃ t, exec i { s with inputs := rest } = .next t ∧ step s = .next { t with busy := false, pending := 0 }) ∧
  (∀ (s : State) (rest : List Event), CompletionIsNext s rest → gateClosed s = false →
    (∀ i, decode s.pending ≠ .ok i) →
    step s = .next { s with err := .illegalCommand, busy := false, pending := 0, inputs := rest }) ∧
  (∀ (s : State) (rest : List Event), CompletionIsNext s rest → gateClosed s = true → decode s.pending = .ok .clrErr →
    step s = .next { s with err := .none, ovr := false, busy := false, pending := 0, inputs := rest }) ∧
  (∀ (s : State) (rest : List Event), CompletionIsNext s rest → gateClosed s = true → decode s.pending ≠ .ok .clrErr →
    step s = .next { s with busy := false, pending := 0, inputs := rest }) ∧
  (∀ (s : State) (rest : List Event), s.inputs = .complete :: rest → s.busy = false →
    step s = .fault .completionNotEnabled)

/-- R274: while the gate is closed, a completion changes nothing but BUSY and PENDING unless it is the one word of
CLR_ERR; the gate stays closed, and ERR and OVR as they are but for a further overrun, until a CLR_ERR completes or a
reset; host writes while idle still take effect, and reads still work. -/
def Obligations.ClosedGateDiscardsCommands : Prop :=
  (∀ (s : State) (rest : List Event), CompletionIsNext s rest → (s.err ≠ .none ∨ s.ovr = true) →
    step s = .next (if s.pending = 0x00000001 then
        { s with err := .none, ovr := false, busy := false, pending := 0, inputs := rest }
      else { s with busy := false, pending := 0, inputs := rest })) ∧
  (∀ s t : State, (s.err ≠ .none ∨ s.ovr = true) → step s = .next t →
    (t.err = s.err ∧ (s.ovr = true → t.ovr = true)) ∨ ResetIsNext s ∨
      (∃ rest, CompletionIsNext s rest ∧ s.pending = 0x00000001)) ∧
  (∀ (s : State) (r : Reg) (v : Word) (rest : List Event), s.inputs = .write r.offset 32 v :: rest → s.busy = false →
    ∃ t, step s = .next t ∧ t.replies = .ok :: s.replies ∧ t.err = s.err ∧ t.ovr = s.ovr ∧
      (r = .msgLen ∨ (∃ j, r = .key j) ∨ (∃ j, r = .iv j) ∨ (∃ j, r = .state j) ∨ (∃ j, r = .din j) → readReg r t = v) ∧
      (r = .cmd → t.pending = v ∧ t.busy = true)) ∧
  (∀ (s : State) (r : Reg) (rest : List Event), s.inputs = .read r.offset 32 :: rest →
    ∃ t, step s = .next t ∧ t.replies = .data (readReg r s) :: s.replies)

/-- R85: the illegal words are exactly those of R85's list; with the gate open one raises ILLEGAL_COMMAND and has no
other effect, with the gate closed it is discarded, and issuing one still sets BUSY. -/
def Obligations.IllegalWordsRaiseIllegalCommand : Prop :=
  ∀ w : Word,
    (IllegalWord w ↔ ∀ i, decode w ≠ .ok i) ∧
    (IllegalWord w → ∀ s : State,
      (gateClosed s = false → execute w s = .next { s with err := .illegalCommand }) ∧
      (gateClosed s = true → execute w s = .next s) ∧
      (s.busy = false → busWrite 0x008 32 w s = { s with pending := w, busy := true }))

/-- R83: a word decodes exactly when its opcode is assigned, RSV is 0, the fields its opcode does not use are 0, and
for MSG_START A[7:2] is 0; equivalently when it matches, under the mask, the row whose opcode is its own. -/
def Obligations.WordsDecodeByTheOpcodeTable : Prop :=
  ∀ w : Word,
    ((∃ i, decode w = .ok i) ↔
      opcField w ∈ assignedOpcodes ∧ rsvField w = 0 ∧ (opcField w ≠ 0x08 → bField w = 0) ∧
        (opcField w ∉ opcodesWithA → aField w = 0) ∧ (opcField w = 0x50 → (aField w).extractLsb' 2 6 = 0)) ∧
    ((∃ i, decode w = .ok i) ↔ ∃ row ∈ opcodeTable, opcField row.pattern = opcField w ∧ w &&& row.mask = row.pattern) ∧
    ∀ i, decode w = .ok i → ∀ row ∈ opcodeTable, (w &&& row.mask = row.pattern ↔ row.mnemonic = i.mnemonic)

/-- Every well-formed command is read back from its word, with every operand at every value. -/
def Obligations.DecodeReadsBackEveryCommand : Prop := ∀ i : Instr, i.wf = true → decode (encode i) = .ok i

/-- A word that decodes is the word of the command it decodes to, so no two words are the same command. -/
def Obligations.EncodeWritesBackEveryWord : Prop := ∀ (w : Word) (i : Instr), decode w = .ok i → encode i = w ∧ i.wf = true

/-- Words written out from the spec's encodings (R84, R87 and the command rules), one at least for each family. -/
def Obligations.SampleWordsAreReadAsTheirCommands : Prop :=
  decode 0x00000000 = .ok .nop ∧ decode 0x00000001 = .ok .clrErr ∧ decode 0x00835708 = .ok (.gfMul 0x57 0x83) ∧
  decode 0x00005309 = .ok (.sbox 0x53) ∧ decode 0x0000ED0A = .ok (.invSbox 0xED) ∧
  decode 0x00001010 = .ok (.keyExpand 16) ∧ decode 0x00000022 = .ok .shiftRows ∧
  decode 0x00000A26 = .ok (.addRoundKey 10) ∧ decode 0x00000030 = .ok .encBlock ∧ decode 0x00000540 = .ok (.padAdd 5) ∧
  decode 0x00000250 = .ok (.msgStart 2) ∧ decode 0x00000350 = .ok (.msgStart 3) ∧ decode 0x00000150 = .ok (.msgStart 1) ∧
  msgDirOf 3 = .dec ∧ msgModeOf 3 = .cbc ∧ msgDirOf 2 = .enc ∧ msgModeOf 1 = .ecb ∧
  decode 0x00000051 = .ok .msgBlock ∧ decode 0x00000100 = .error .unusedANonzero ∧
  decode 0x00000002 = .error .unassignedOpcode ∧ decode 0x01000009 = .error .reservedNonzero ∧
  decode 0x00010009 = .error .unusedBNonzero ∧ decode 0x00000450 = .error .msgStartReservedNonzero

/-- R87's syntax: the assembler reads what the disassembler prints of any command's word back to that word, an operand
byte may be written in decimal or in hex, R87's examples assemble to R87's words, and an illegal word prints as
`.word`. How operands are spaced and which base the disassembler prints are the model's choice (log entry 8). -/
def Obligations.AssemblerReadsTheDisassembly : Prop :=
  (∀ (w : Word) (i : Instr), decode w = .ok i → assemble (disassemble w) = some w) ∧
  (∀ b : Byte, parseByte (decText b) = some b ∧ parseByte (hexText b) = some b) ∧
  (∀ w : Word, (∀ i, decode w ≠ .ok i) → disassemble w = String.ofList (".word 0x".toList ++ hexDigits 8 w.toNat)) ∧
  assemble "GF_MUL 0x57, 0x83" = some 0x00835708 ∧ assemble "SBOX 0x53" = some 0x00005309 ∧
  assemble "KEY_EXPAND 16" = some 0x00001010 ∧ assemble "ADD_ROUND_KEY 10" = some 0x00000A26 ∧
  assemble "PAD_ADD 5" = some 0x00000540 ∧ assemble "MSG_START ENC, CBC" = some 0x00000250 ∧
  assemble "MSG_START DEC, CBC" = some 0x00000350 ∧ assemble "MSG_START DEC, ECB" = some 0x00000150

/-! ### Control -/

/-- R102, NOP: its one word, no effect, every malformed word illegal, discarding it the same as performing it, and the
example. -/
def Obligations.NopChangesNothing : Prop :=
  decode 0x00000000 = .ok .nop ∧
  (∀ s : State, exec .nop s = .next s) ∧
  IllegalUnless 0x00 (PlainWord 0x00) ∧
  (∀ s : State, execute 0x00000000 s = .next s) ∧
  (∀ s : State, s.busy = false → s.err = .none →
    runEvents [.write 0x008 32 0x00000000] s =
      .next { s with busy := true, pending := 0x00000000, replies := .ok :: s.replies } ∧
    runEvents [.write 0x008 32 0x00000000, .complete] s = .next { s with pending := 0, replies := .ok :: s.replies })

/-- R103, CLR_ERR: its one word, ERR and OVR cleared and nothing else changed with the gate open or closed, malformed
words illegal with the gate open and discarded with it closed, and it is the only way besides reset to reopen the
gate. -/
def Obligations.ClrErrReopensTheGate : Prop :=
  decode 0x00000001 = .ok .clrErr ∧
  (∀ s : State, exec .clrErr s = .next { s with err := .none, ovr := false }) ∧
  (∀ s : State, execute 0x00000001 s = .next { s with err := .none, ovr := false }) ∧
  IllegalUnless 0x01 (PlainWord 0x01) ∧
  (∀ (w : Word) (s : State), opcField w = 0x01 → w ≠ 0x00000001 → gateClosed s = true → execute w s = .next s) ∧
  (∀ s : State, s.err = .none → s.ovr = false → exec .clrErr s = .next s) ∧
  (∀ s t : State, gateClosed s = true → step s = .next t → gateClosed t = false →
    ResetIsNext s ∨ ∃ rest, CompletionIsNext s rest ∧ s.pending = 0x00000001)

/-! ### GF(2^8) and the S-box -/

/-- R129, GF_MUL: its words, RESULT the product in [7:0] with [31:8] zero and nothing else changed, malformed words
illegal, and R129's corner cases and example. -/
def Obligations.GfMulWritesTheProduct : Prop :=
  (∀ a b : Byte, decode (fieldWord 0x08 a b) = .ok (.gfMul a b)) ∧
  (∀ (a b : Byte) (s : State), ∃ t, exec (.gfMul a b) s = .next t ∧ t = { s with result := gmul a b } ∧
    readReg .result t = (gmul a b).setWidth 32) ∧
  IllegalUnless 0x08 (fun w => ∃ a b, w = fieldWord 0x08 a b) ∧
  (∀ a : Byte, gmul a 0 = 0 ∧ gmul 0 a = 0 ∧ gmul 1 a = a) ∧
  (∀ a b : Byte, gmul a b = gmul b a) ∧
  gmul 0x80 0x02 = 0x1B ∧ gmul 0xFF 0xFF = 0x13 ∧ fieldWord 0x08 0x57 0x83 = 0x00835708 ∧ gmul 0x57 0x83 = 0xC1

/-- R130, SBOX: its words, RESULT the table's entry and nothing else changed, malformed words illegal, and R130's
corner cases and example. -/
def Obligations.SboxWritesTheEntry : Prop :=
  (∀ x : Byte, decode (fieldWord 0x09 x 0) = .ok (.sbox x)) ∧
  (∀ (x : Byte) (s : State), ∃ t, exec (.sbox x) s = .next t ∧ t = { s with result := sboxOf x } ∧
    readReg .result t = (sboxOf x).setWidth 32) ∧
  IllegalUnless 0x09 (OneByteWord 0x09) ∧
  sboxOf 0x00 = 0x63 ∧ sboxOf 0xFF = 0x16 ∧ fieldWord 0x09 0x53 0 = 0x00005309 ∧ sboxOf 0x53 = 0xED

/-- R131, INV_SBOX: its words, RESULT the inverse table's entry and nothing else changed, malformed words illegal,
R131's corner cases and example, and that it undoes SBOX. -/
def Obligations.InvSboxWritesTheEntry : Prop :=
  (∀ y : Byte, decode (fieldWord 0x0A y 0) = .ok (.invSbox y)) ∧
  (∀ (y : Byte) (s : State), ∃ t, exec (.invSbox y) s = .next t ∧ t = { s with result := invSboxOf y } ∧
    readReg .result t = (invSboxOf y).setWidth 32) ∧
  IllegalUnless 0x0A (OneByteWord 0x0A) ∧
  invSboxOf 0x63 = 0x00 ∧ invSboxOf 0x00 = 0x52 ∧ fieldWord 0x0A 0xED 0 = 0x0000ED0A ∧ invSboxOf 0xED = 0x53 ∧
  (∀ (x : Byte) (s t : State), exec (.sbox x) s = .next t → exec (.invSbox t.result) t = .next { t with result := x })

/-- R124, the laws of gmul: commutativity, zero and one, distributivity, that it is the product of the polynomials
modulo 0x11B, associativity, and one inverse for each nonzero byte. -/
def Obligations.GmulIsFieldMultiplication : Prop :=
  (∀ a b : Byte, gmul a b = gmul b a) ∧
  (∀ a : Byte, gmul a 0 = 0 ∧ gmul a 1 = a) ∧
  (∀ a b c : Byte, gmul a (b ^^^ c) = gmul a b ^^^ gmul a c) ∧
  (∀ a b : Byte, ∃ q : Byte, carrylessProduct a b = modulusMultiple q ^^^ (gmul a b).setWidth 16) ∧
  (∀ a b c : Byte, gmul a (gmul b c) = gmul (gmul a b) c) ∧
  (∀ a : Byte, a ≠ 0 → ∃! b : Byte, gmul a b = 1)

/-- R127: the two tables are inverse to each other both ways, and S has no fixed point. -/
def Obligations.SboxTablesAreInverse : Prop :=
  (∀ x : Byte, invSboxOf (sboxOf x) = x) ∧ (∀ y : Byte, sboxOf (invSboxOf y) = y) ∧ (∀ x : Byte, sboxOf x ≠ x)

/-- R128: the table is the field inverse (0 for 0) under the affine map with the constant 0x63. -/
def Obligations.SboxIsTheAffineOfTheInverse : Prop :=
  (∀ y : Byte, ∀ i < 8, (affine y).getLsbD i =
    (y.getLsbD i ^^ y.getLsbD ((i + 4) % 8) ^^ y.getLsbD ((i + 5) % 8) ^^ y.getLsbD ((i + 6) % 8) ^^
      y.getLsbD ((i + 7) % 8) ^^ (0x63#8).getLsbD i)) ∧
  sboxOf 0 = affine 0 ∧
  (∀ x y : Byte, gmul x y = 1 → sboxOf x = affine y)

/-! ### Key schedule -/

/-- R147 (with R140, R144 and R146), KEY_EXPAND: its words; SEQUENCE during a message with nothing else written;
INVALID_KEY_LENGTH for any other length, which drops the schedule; otherwise the words of the recurrence in RKW, zeros
beyond them, NR and KEY_VALID, and nothing else changed; malformed words illegal; the lengths of the corner cases; and
the example. -/
def Obligations.KeyExpandBuildsTheSchedule : Prop :=
  (∀ len : Byte, decode (fieldWord 0x10 len 0) = .ok (.keyExpand len)) ∧
  (∀ (len : Byte) (s : State), s.msgActive = true → exec (.keyExpand len) s = .next { s with err := .sequence }) ∧
  (∀ (len : Byte) (s : State), s.msgActive = false → ¬ KeyLength len.toNat →
    exec (.keyExpand len) s =
      .next { s with keyValid := false, nr := .none, rkw := Vector.replicate 60 0, err := .invalidKeyLength }) ∧
  (∀ (len : Byte) (s : State), s.msgActive = false → KeyLength len.toNat →
    ∃ (r : Rounds) (w : Nat → Word),
      r.count = len.toNat / 4 + 6 ∧ IsSchedule (len.toNat / 4) r.count s.key w ∧
      exec (.keyExpand len) s =
        .next { s with
          rkw := Vector.ofFn fun i => if i.val < 4 * (r.count + 1) then w i.val else 0, nr := r, keyValid := true }) ∧
  IllegalUnless 0x10 (OneByteWord 0x10) ∧
  (∀ n ∈ [0, 15, 17, 31, 33], ¬ KeyLength n) ∧
  (∀ s : State, s.msgActive = false →
    (∀ k : Fin 16, s.key.getD k.val 0 = (hexBlock 0x2b7e151628aed2a6abf7158809cf4f3c).get k) →
    ∃ t, exec (.keyExpand 16) s = .next t ∧ t.nr = .ten ∧ t.keyValid = true ∧
      readReg (.rkw 4) t = 0xa0fafe17 ∧ readReg (.rkw 43) t = 0xb6630ca6)

/-- R148: after a successful KEY_EXPAND the store, NR and KEY_VALID depend only on the length and on KEY's bytes below
it, and not on any earlier state. -/
def Obligations.ScheduleDependsOnTheKeyAlone : Prop :=
  ∀ (len : Byte) (s u t v : State), (∀ i < len.toNat, s.key.getD i 0 = u.key.getD i 0) →
    exec (.keyExpand len) s = .next t → exec (.keyExpand len) u = .next v →
    s.msgActive = false → u.msgActive = false → KeyLength len.toNat →
    t.rkw = v.rkw ∧ t.nr = v.nr ∧ t.keyValid = v.keyValid

/-! ### Round transforms -/

/-- R170 and R171 (with R161, R162), SUB_BYTES and INV_SUB_BYTES: their words, every byte of STATE through its table
and nothing else changed, malformed words illegal, and the corner cases and examples. -/
def Obligations.SubBytesMapsEveryByte : Prop :=
  decode 0x00000020 = .ok .subBytes ∧ decode 0x00000021 = .ok .invSubBytes ∧
  (∀ s : State, ∃ b : Block, exec .subBytes s = .next { s with state := b } ∧
    ∀ k : Fin 16, b.get k = sboxOf (s.state.get k)) ∧
  (∀ s : State, ∃ b : Block, exec .invSubBytes s = .next { s with state := b } ∧
    ∀ k : Fin 16, b.get k = invSboxOf (s.state.get k)) ∧
  IllegalUnless 0x20 (PlainWord 0x20) ∧ IllegalUnless 0x21 (PlainWord 0x21) ∧
  subBytes zeroBlock = Vector.replicate 16 0x63 ∧ invSubBytes (Vector.replicate 16 0x63) = zeroBlock ∧
  invSubBytes zeroBlock = Vector.replicate 16 0x52 ∧
  subBytes (hexBlock 0x193de3bea0f4e22b9ac68d2ae9f84808) = hexBlock 0xd42711aee0bf98f1b8b45de51e415230 ∧
  invSubBytes (hexBlock 0xd42711aee0bf98f1b8b45de51e415230) = hexBlock 0x193de3bea0f4e22b9ac68d2ae9f84808

/-- R172 and R173 (with R163, R164), SHIFT_ROWS and INV_SHIFT_ROWS: their words, row r turned by r columns, as entries
and as byte indexes, nothing else changed, malformed words illegal, and the corner cases and examples. -/
def Obligations.ShiftRowsTurnsTheRows : Prop :=
  decode 0x00000022 = .ok .shiftRows ∧ decode 0x00000023 = .ok .invShiftRows ∧
  (∀ s : State, ∃ b : Block, exec .shiftRows s = .next { s with state := b } ∧
    (∀ r < 4, ∀ c < 4, b.getD (r + 4 * c) 0 = s.state.getD (r + 4 * ((c + r) % 4)) 0) ∧
    ∀ k < 16, b.getD k 0 = s.state.getD (shiftRowsIndex.getD k 0) 0) ∧
  (∀ s : State, ∃ b : Block, exec .invShiftRows s = .next { s with state := b } ∧
    (∀ r < 4, ∀ c < 4, b.getD (r + 4 * c) 0 = s.state.getD (r + 4 * ((c + 4 - r) % 4)) 0) ∧
    ∀ k < 16, b.getD k 0 = s.state.getD (invShiftRowsIndex.getD k 0) 0) ∧
  IllegalUnless 0x22 (PlainWord 0x22) ∧ IllegalUnless 0x23 (PlainWord 0x23) ∧
  (∀ b : Block, (∀ r < 4, ∀ c < 4, entry b r c = entry b r 0) → shiftRows b = b) ∧
  (∀ b : Block, shiftRows (shiftRows (shiftRows (shiftRows b))) = b) ∧
  shiftRows (hexBlock 0x000102030405060708090a0b0c0d0e0f) = hexBlock 0x00050a0f04090e03080d02070c01060b ∧
  invShiftRows (hexBlock 0x000102030405060708090a0b0c0d0e0f) = hexBlock 0x000d0a0704010e0b0805020f0c090603 ∧
  shiftRows (hexBlock 0xd42711aee0bf98f1b8b45de51e415230) = hexBlock 0xd4bf5d30e0b452aeb84111f11e2798e5 ∧
  invShiftRows (hexBlock 0xd4bf5d30e0b452aeb84111f11e2798e5) = hexBlock 0xd42711aee0bf98f1b8b45de51e415230

/-- R174 and R175 (with R165, R166's written-out rows), MIX_COLUMNS and INV_MIX_COLUMNS: their words, every column
through the matrix and nothing else changed, malformed words illegal, and the corner cases and examples. -/
def Obligations.MixColumnsMultipliesTheColumns : Prop :=
  decode 0x00000024 = .ok .mixColumns ∧ decode 0x00000025 = .ok .invMixColumns ∧
  (∀ s : State, ∃ b : Block, exec .mixColumns s = .next { s with state := b } ∧
    ∀ c < 4,
      let s0 := s.state.getD (4 * c) 0
      let s1 := s.state.getD (4 * c + 1) 0
      let s2 := s.state.getD (4 * c + 2) 0
      let s3 := s.state.getD (4 * c + 3) 0
      b.getD (4 * c) 0 = gmul 2 s0 ^^^ gmul 3 s1 ^^^ s2 ^^^ s3 ∧
      b.getD (4 * c + 1) 0 = s0 ^^^ gmul 2 s1 ^^^ gmul 3 s2 ^^^ s3 ∧
      b.getD (4 * c + 2) 0 = s0 ^^^ s1 ^^^ gmul 2 s2 ^^^ gmul 3 s3 ∧
      b.getD (4 * c + 3) 0 = gmul 3 s0 ^^^ s1 ^^^ s2 ^^^ gmul 2 s3) ∧
  (∀ s : State, ∃ b : Block, exec .invMixColumns s = .next { s with state := b } ∧
    ∀ c < 4,
      let s0 := s.state.getD (4 * c) 0
      let s1 := s.state.getD (4 * c + 1) 0
      let s2 := s.state.getD (4 * c + 2) 0
      let s3 := s.state.getD (4 * c + 3) 0
      b.getD (4 * c) 0 = gmul 14 s0 ^^^ gmul 11 s1 ^^^ gmul 13 s2 ^^^ gmul 9 s3 ∧
      b.getD (4 * c + 1) 0 = gmul 9 s0 ^^^ gmul 14 s1 ^^^ gmul 11 s2 ^^^ gmul 13 s3 ∧
      b.getD (4 * c + 2) 0 = gmul 13 s0 ^^^ gmul 9 s1 ^^^ gmul 14 s2 ^^^ gmul 11 s3 ∧
      b.getD (4 * c + 3) 0 = gmul 11 s0 ^^^ gmul 13 s1 ^^^ gmul 9 s2 ^^^ gmul 14 s3) ∧
  IllegalUnless 0x24 (PlainWord 0x24) ∧ IllegalUnless 0x25 (PlainWord 0x25) ∧
  (∀ (b : Block) (c : Nat) (x : Byte), c < 4 → (∀ r < 4, entry b r c = x) →
    ∀ r < 4, entry (mixColumns b) r c = x ∧ entry (invMixColumns b) r c = x) ∧
  mixColumns zeroBlock = zeroBlock ∧
  mixColumns (hexBlock 0xdb135345f20a225c01010101c6c6c6c6) = hexBlock 0x8e4da1bc9fdc589d01010101c6c6c6c6 ∧
  invMixColumns (hexBlock 0x8e4da1bc9fdc589d01010101c6c6c6c6) = hexBlock 0xdb135345f20a225c01010101c6c6c6c6 ∧
  mixColumns (hexBlock 0xd4bf5d30e0b452aeb84111f11e2798e5) = hexBlock 0x046681e5e0cb199a48f8d37a2806264c ∧
  invMixColumns (hexBlock 0x046681e5e0cb199a48f8d37a2806264c) = hexBlock 0xd4bf5d30e0b452aeb84111f11e2798e5

/-- R176 (with R167, R145), ADD_ROUND_KEY: its words; NO_KEY first, then BAD_OPERAND for n > NR, each with nothing
else written; otherwise byte i of STATE XOR byte i of the round key in RKW4n..RKW4n+3 and nothing else changed;
malformed words illegal; applying the same n twice restores STATE; the example; and n = 0 after a KEY_EXPAND XORs the
first 16 key bytes. -/
def Obligations.AddRoundKeyXorsTheRoundKey : Prop :=
  (∀ n : Byte, decode (fieldWord 0x26 n 0) = .ok (.addRoundKey n)) ∧
  (∀ (n : Byte) (s : State), s.keyValid = false → exec (.addRoundKey n) s = .next { s with err := .noKey }) ∧
  (∀ (n : Byte) (s : State), s.keyValid = true → n.toNat > s.nr.count →
    exec (.addRoundKey n) s = .next { s with err := .badOperand }) ∧
  (∀ (n : Byte) (s : State), s.keyValid = true → n.toNat ≤ s.nr.count →
    ∃ b : Block, exec (.addRoundKey n) s = .next { s with state := b } ∧
      (∀ j < 4, ∀ k < 4, b.getD (4 * j + k) 0 =
        s.state.getD (4 * j + k) 0 ^^^ wordByte (s.rkw.getD (4 * n.toNat + j) 0) k) ∧
      exec (.addRoundKey n) { s with state := b } = .next s) ∧
  IllegalUnless 0x26 (OneByteWord 0x26) ∧
  (∀ s : State, s.keyValid = true → s.state = hexBlock 0x3243f6a8885a308d313198a2e0370734 →
    s.rkw.getD 0 0 = 0x2b7e1516 → s.rkw.getD 1 0 = 0x28aed2a6 → s.rkw.getD 2 0 = 0xabf71588 → s.rkw.getD 3 0 = 0x09cf4f3c →
    fieldWord 0x26 0 0 = 0x00000026 ∧
    exec (.addRoundKey 0) s = .next { s with state := hexBlock 0x193de3bea0f4e22b9ac68d2ae9f84808 }) ∧
  (∀ (len : Byte) (s : State), s.msgActive = false → KeyLength len.toNat →
    ∃ (t : State) (b : Block), exec (.keyExpand len) s = .next t ∧ exec (.addRoundKey 0) t = .next { t with state := b } ∧
      ∀ k : Fin 16, b.get k = s.state.get k ^^^ s.key.getD k.val 0)

/-- R168: each transform and its inverse compose to the identity in both orders, AddRoundKey is its own inverse, and
SubBytes commutes with ShiftRows. -/
def Obligations.RoundTransformsHaveInverses : Prop :=
  ∀ b k : Block,
    invSubBytes (subBytes b) = b ∧ subBytes (invSubBytes b) = b ∧
    invShiftRows (shiftRows b) = b ∧ shiftRows (invShiftRows b) = b ∧
    invMixColumns (mixColumns b) = b ∧ mixColumns (invMixColumns b) = b ∧
    addRoundKey (addRoundKey b k) k = b ∧ subBytes (shiftRows b) = shiftRows (subBytes b)

/-- R166: the direct form, row r of the matrix the coefficients rotated right by r, and the doubling form give the same
result on every input. -/
def Obligations.InvMixColumnsFormsAgree : Prop :=
  ∀ b : Block,
    (∀ r < 4, ∀ c < 4, entry (invMixColumns b) r c =
      (List.range 4).foldl (fun x k => x ^^^ gmul (([0x0E, 0x0B, 0x0D, 0x09] : List Byte).getD ((k + 4 - r) % 4) 0) (entry b k c)) 0) ∧
    (∀ r < 4, ∀ c < 4, entry (doubleColumns b) r c =
      entry b r c ^^^ xtime (xtime (entry b (r % 2) c ^^^ entry b (r % 2 + 2) c))) ∧
    invMixColumns b = mixColumns (doubleColumns b)

/-! ### Block cipher -/

/-- R190 and R191: the two ciphers, as the states after each of their rounds. -/
def Obligations.CiphersFollowTheirRounds : Prop :=
  ∀ (nr : Nat) (rk : Nat → Block) (x : Block), 1 ≤ nr →
    (∃ st, CipherRounds nr rk x st ∧
      cipher nr rk x = addRoundKey (shiftRows (subBytes (st (nr - 1)))) (rk nr)) ∧
    (∃ st, InvCipherRounds nr rk x st ∧ invCipher nr rk x = addRoundKey (st 1) (rk 0))

/-- R193, ENC_BLOCK: its word; NO_KEY without a schedule, nothing else written; otherwise Cipher of STATE under the
schedule held and nothing else changed, also during a message; malformed words illegal; and the example. -/
def Obligations.EncBlockEncryptsState : Prop :=
  decode 0x00000030 = .ok .encBlock ∧
  (∀ s : State, s.keyValid = false → exec .encBlock s = .next { s with err := .noKey }) ∧
  (∀ s : State, s.keyValid = true →
    exec .encBlock s = .next { s with state := cipher s.nr.count (roundKey s.rkw) s.state }) ∧
  IllegalUnless 0x30 (PlainWord 0x30) ∧
  (∀ s : State, s.keyValid = true → s.nr = .ten → s.rkw = scheduleOfKey .ten (List.replicate 16 0) → s.state = zeroBlock →
    exec .encBlock s = .next { s with state := hexBlock 0x66e94bd4ef8a2c3b884cfa59ca342b2e }) ∧
  (∀ s : State, s.keyValid = true → s.nr = .ten →
    s.rkw = scheduleOfKey .ten (hexBlock 0x000102030405060708090a0b0c0d0e0f).toList →
    s.state = hexBlock 0x00112233445566778899aabbccddeeff →
    exec .encBlock s = .next { s with state := hexBlock 0x69c4e0d86a7b0430d8cdb78070b4c55a })

/-- R194, DEC_BLOCK: its word; NO_KEY without a schedule; otherwise InvCipher of STATE and nothing else changed;
malformed words illegal; ENC_BLOCK then DEC_BLOCK restores STATE; and the example. -/
def Obligations.DecBlockDecryptsState : Prop :=
  decode 0x00000031 = .ok .decBlock ∧
  (∀ s : State, s.keyValid = false → exec .decBlock s = .next { s with err := .noKey }) ∧
  (∀ s : State, s.keyValid = true →
    exec .decBlock s = .next { s with state := invCipher s.nr.count (roundKey s.rkw) s.state }) ∧
  IllegalUnless 0x31 (PlainWord 0x31) ∧
  (∀ s t : State, s.keyValid = true → s.nr ≠ .none → exec .encBlock s = .next t → exec .decBlock t = .next s) ∧
  (∀ s : State, s.keyValid = true → s.nr = .fourteen →
    s.rkw = scheduleOfKey .fourteen ((hexBlock 0x000102030405060708090a0b0c0d0e0f).toList ++
      (hexBlock 0x101112131415161718191a1b1c1d1e1f).toList) →
    s.state = hexBlock 0x8ea2b7ca516745bfeafc49904b496089 →
    exec .decBlock s = .next { s with state := hexBlock 0x00112233445566778899aabbccddeeff })

/-- R192: for every round count of R140, every set of round keys and every block, each cipher undoes the other. -/
def Obligations.InvCipherUndoesCipher : Prop :=
  ∀ (nr : Nat) (rk : Nat → Block) (x : Block), nr = 10 ∨ nr = 12 ∨ nr = 14 →
    invCipher nr rk (cipher nr rk x) = x ∧ cipher nr rk (invCipher nr rk x) = x

/-! ### Padding -/

/-- R215 (with R212), PAD_ADD: its words; BAD_OPERAND for n > 15, nothing else written; otherwise the first n bytes of
STATE kept, the others 16 - n, nothing else changed; malformed words illegal; the corner cases and the example. -/
def Obligations.PadAddFillsTheBlock : Prop :=
  (∀ n : Byte, decode (fieldWord 0x40 n 0) = .ok (.padAdd n)) ∧
  (∀ (n : Byte) (s : State), n.toNat > 15 → exec (.padAdd n) s = .next { s with err := .badOperand }) ∧
  (∀ (n : Byte) (s : State), n.toNat ≤ 15 → ∃ b : Block, exec (.padAdd n) s = .next { s with state := b } ∧
    ∀ k : Fin 16, b.get k = if k.val < n.toNat then s.state.get k else 16 - n) ∧
  IllegalUnless 0x40 (OneByteWord 0x40) ∧
  (∀ b : Block, padFill b 0 = Vector.replicate 16 0x10 ∧ padFill b 15 = b.set 15 0x01) ∧
  (∀ s : State, exec (.padAdd 16) s = .next { s with err := .badOperand }) ∧
  (∀ s : State, s.state.get 0 = 0x61 →
    exec (.padAdd 1) s = .next { s with state := hexBlock 0x610f0f0f0f0f0f0f0f0f0f0f0f0f0f0f })

/-- R216 (with R213), PAD_CHECK: its word; when the last byte p is in 1..16 and the last p bytes all equal it, RESULT
is 16 - p and nothing else changes; otherwise INVALID_PADDING and nothing else changes; malformed words illegal; the
corner cases and the example. -/
def Obligations.PadCheckCountsTheData : Prop :=
  decode 0x00000041 = .ok .padCheck ∧
  (∀ (s : State) (p : Nat), 1 ≤ p → p ≤ 16 → (∀ k : Fin 16, 16 - p ≤ k.val → (s.state.get k).toNat = p) →
    exec .padCheck s = .next { s with result := BitVec.ofNat 8 (16 - p) }) ∧
  (∀ s : State, (¬ ∃ p, 1 ≤ p ∧ p ≤ 16 ∧ ∀ k : Fin 16, 16 - p ≤ k.val → (s.state.get k).toNat = p) →
    exec .padCheck s = .next { s with err := .invalidPadding }) ∧
  IllegalUnless 0x41 (PlainWord 0x41) ∧
  (∀ b : Block, b.get 15 = 0x01 → padCheck b = some 15) ∧ padCheck (Vector.replicate 16 0x10) = some 0 ∧
  (∀ b : Block, (b.get 15 = 0x00 ∨ b.get 15 = 0x11 ∨ (b.get 15 = 0x02 ∧ b.get 14 = 0x03)) → padCheck b = none) ∧
  (∀ b : Block, b.get 15 = 0x02 → b.get 14 = 0x02 → padCheck b = some 14) ∧
  (∀ s : State, s.state = hexBlock 0x610f0f0f0f0f0f0f0f0f0f0f0f0f0f0f → exec .padCheck s = .next { s with result := 1 })

/-- R214: padding at the level of the message is the block-level fill of the final block, and its removal is the
block-level check of the final block. -/
def Obligations.PaddingLevelsAgree : Prop :=
  (∀ (data : List Byte) (f : Block), (∀ k < data.length % 16, f.getD k 0 = data.getD (16 * (data.length / 16) + k) 0) →
    pkcs7Add data = joinBlocks (blocksOf (data.length / 16) data) ++ blockBytes (padFill f (data.length % 16))) ∧
  (∀ (data : List Byte) (m : Nat), 1 ≤ m → data.length = 16 * m →
    pkcs7Remove data =
      (padCheck (blockAt data (m - 1) 0)).map fun c =>
        joinBlocks (blocksOf (m - 1) data) ++ (blockBytes (blockAt data (m - 1) 0)).take c)

/-- R217: padding always grows, by 16 on an aligned length, and removing what was added gives the data back. -/
def Obligations.PaddingGrowsAndIsRemoved : Prop :=
  ∀ p : List Byte,
    (pkcs7Add p).length = p.length + (16 - p.length % 16) ∧
    (p.length % 16 = 0 → (pkcs7Add p).length = p.length + 16) ∧ pkcs7Remove (pkcs7Add p) = some p

/-! ### Message controller -/

/-- R235, MSG_START: its words; the five checks in order, each failing check raising its code with nothing else
written; otherwise every field R235 writes and no other; malformed words illegal; the largest length; and the
example. -/
def Obligations.MsgStartBeginsAMessage : Prop :=
  (∀ (d : Dir) (m : Mode), decode (fieldWord 0x50 (msgStartOperand d m) 0) = .ok (.msgStart (msgStartOperand d m))) ∧
  (∀ a : Byte, (msgDirOf a = .dec ↔ a.getLsbD 0 = true) ∧ (msgModeOf a = .cbc ↔ a.getLsbD 1 = true)) ∧
  (∀ (a : Byte) (s : State), s.msgActive = true → exec (.msgStart a) s = .next { s with err := .sequence }) ∧
  (∀ (a : Byte) (s : State), s.msgActive = false → s.keyValid = false →
    exec (.msgStart a) s = .next { s with err := .noKey }) ∧
  (∀ (a : Byte) (s : State), s.msgActive = false → s.keyValid = true → msgModeOf a = .cbc → s.ivWr ≠ 0b1111 →
    exec (.msgStart a) s = .next { s with err := .invalidIvLength }) ∧
  (∀ (a : Byte) (s : State), s.msgActive = false → s.keyValid = true → (msgModeOf a = .cbc → s.ivWr = 0b1111) →
    msgDirOf a = .dec → s.msgLen.toNat % 16 ≠ 0 → exec (.msgStart a) s = .next { s with err := .invalidBlockLength }) ∧
  (∀ (a : Byte) (s : State), s.msgActive = false → s.keyValid = true → (msgModeOf a = .cbc → s.ivWr = 0b1111) →
    msgDirOf a = .dec → s.msgLen = 0 → exec (.msgStart a) s = .next { s with err := .invalidPadding }) ∧
  (∀ (a : Byte) (s : State), s.msgActive = false → s.keyValid = true → (msgModeOf a = .cbc → s.ivWr = 0b1111) →
    (msgDirOf a = .dec → s.msgLen.toNat % 16 = 0 ∧ s.msgLen ≠ 0) →
    exec (.msgStart a) s =
      .next { s with
        msgActive := true, msgDir := msgDirOf a, msgMode := msgModeOf a,
        chain := if msgModeOf a = .cbc then s.iv else zeroBlock,
        iv := if msgModeOf a = .cbc then zeroBlock else s.iv,
        ivWr := if msgModeOf a = .cbc then 0 else s.ivWr,
        msgRemain := BitVec.ofNat 29 (if msgDirOf a = .enc then s.msgLen.toNat / 16 + 1 else s.msgLen.toNat / 16),
        msgTail := if msgDirOf a = .enc then BitVec.ofNat 4 (s.msgLen.toNat % 16) else 0,
        dout := zeroBlock, doutBytes := 0 }) ∧
  IllegalUnless 0x50 (fun w => ∃ (d : Dir) (m : Mode), w = fieldWord 0x50 (msgStartOperand d m) 0) ∧
  (∀ s : State, s.msgActive = false → s.keyValid = true → s.msgLen = 0xFFFFFFFF →
    ∃ t, exec (.msgStart (msgStartOperand .enc .ecb)) s = .next t ∧ readReg .msgRemain t = 0x10000000) ∧
  (∀ s : State, s.msgActive = false → s.keyValid = true → s.ivWr = 0b1111 → s.msgLen = 20 →
    fieldWord 0x50 (msgStartOperand .enc .cbc) 0 = 0x00000250 ∧
    ∃ t, exec (.msgStart (msgStartOperand .enc .cbc)) s = .next t ∧ t.msgActive = true ∧ t.msgDir = .enc ∧
      t.msgMode = .cbc ∧ readReg .msgRemain t = 2 ∧ readReg .msgTail t = 4 ∧ t.chain = s.iv ∧ t.iv = zeroBlock ∧ t.ivWr = 0)

/-- R236, R237 and R238, MSG_BLOCK: its word; SEQUENCE without a message; an encryption block, the last one padded from
MSG_TAIL and ending the message; a decryption block, the last one checked, its count in DOUT_BYTES; the padding failure
with its side effects; nothing else changed in any case; malformed words illegal; and the example. -/
def Obligations.MsgBlockProcessesOneBlock : Prop :=
  decode 0x00000051 = .ok .msgBlock ∧ IllegalUnless 0x51 (PlainWord 0x51) ∧
  (∀ s : State, s.msgActive = false → exec .msgBlock s = .next { s with err := .sequence }) ∧
  (∀ s : State, s.msgActive = true → s.msgDir = .enc → s.msgRemain ≠ 1 →
    let x := if s.msgMode = .cbc then xorBlock s.din s.chain else s.din
    let y := cipher s.nr.count (roundKey s.rkw) x
    exec .msgBlock s =
      .next { s with
        chain := if s.msgMode = .cbc then y else s.chain, dout := y, doutBytes := 16, msgRemain := s.msgRemain - 1 }) ∧
  (∀ s : State, s.msgActive = true → s.msgDir = .enc → s.msgRemain = 1 →
    let p := padFill s.din s.msgTail.toNat
    let x := if s.msgMode = .cbc then xorBlock p s.chain else p
    exec .msgBlock s =
      .next { s with
        msgActive := false, msgDir := .enc, msgMode := .ecb, msgRemain := 0, msgTail := 0, chain := zeroBlock,
        dout := cipher s.nr.count (roundKey s.rkw) x, doutBytes := 16 }) ∧
  (∀ s : State, s.msgActive = true → s.msgDir = .dec → s.msgRemain ≠ 1 →
    let d := invCipher s.nr.count (roundKey s.rkw) s.din
    exec .msgBlock s =
      .next { s with
        chain := if s.msgMode = .cbc then s.din else s.chain,
        dout := if s.msgMode = .cbc then xorBlock d s.chain else d, doutBytes := 16, msgRemain := s.msgRemain - 1 }) ∧
  (∀ s : State, s.msgActive = true → s.msgDir = .dec → s.msgRemain = 1 →
    let d := invCipher s.nr.count (roundKey s.rkw) s.din
    let x := if s.msgMode = .cbc then xorBlock d s.chain else d
    (∀ c, padCheck x = some c →
      exec .msgBlock s =
        .next { s with
          msgActive := false, msgDir := .enc, msgMode := .ecb, msgRemain := 0, msgTail := 0, chain := zeroBlock,
          dout := x, doutBytes := BitVec.ofNat 5 c }) ∧
    (padCheck x = none →
      exec .msgBlock s =
        .next { s with
          msgActive := false, msgDir := .enc, msgMode := .ecb, msgRemain := 0, msgTail := 0, chain := zeroBlock,
          dout := zeroBlock, doutBytes := 0, err := .invalidPadding })) ∧
  (∀ s : State, s.msgActive = true → s.msgDir = .enc → s.msgMode = .cbc → s.msgRemain = 2 → s.nr = .ten →
    s.rkw = scheduleOfKey .ten (hexBlock 0x2b7e151628aed2a6abf7158809cf4f3c).toList →
    s.chain = hexBlock 0x000102030405060708090a0b0c0d0e0f → s.din = hexBlock 0x68656c6c6f2c20686172647761726520 →
    ∃ t, exec .msgBlock s = .next t ∧ t.dout = hexBlock 0xde6e368ffb86572c2abbcce5cf0e5863 ∧ t.chain = t.dout ∧
      readReg .msgRemain t = 1)

/-- R239 (with R238), MSG_ABORT: its word; with a message active EndMessage and DOUT_BYTES 0, DOUT, IV and IV_WR kept,
nothing else changed; without one, no effect; malformed words illegal. -/
def Obligations.MsgAbortEndsTheMessage : Prop :=
  decode 0x00000052 = .ok .msgAbort ∧
  (∀ s : State, s.msgActive = true →
    exec .msgAbort s =
      .next { s with
        msgActive := false, msgDir := .enc, msgMode := .ecb, msgRemain := 0, msgTail := 0, chain := zeroBlock,
        doutBytes := 0 }) ∧
  (∀ s : State, s.msgActive = false → exec .msgAbort s = .next s) ∧
  IllegalUnless 0x52 (PlainWord 0x52)

/-- R236's corner case (92_eei_decisions.md D23): in the final encryption block the bytes of DIN at and above MSG_TAIL
have no influence on anything the block leaves. -/
def Obligations.FinalBlockIgnoresStaleInput : Prop :=
  ∀ (s : State) (d : Block), s.msgActive = true → s.msgDir = .enc → s.msgRemain = 1 →
    (∀ k < s.msgTail.toNat, d.getD k 0 = s.din.getD k 0) →
    ∃ t, exec .msgBlock s = .next t ∧ exec .msgBlock { s with din := d } = .next { t with din := d }

/-! ### Messages -/

/-- R242 for encryption: under its precondition, with the key's schedule held, ENCRYPT_MSG returns exactly the
reference function's ciphertext, whatever DIN's stale bytes and however long each command takes (both are arguments of
the model's procedure, log entry 11), and leaves the core idle, without an error and without a message. The procedure
is given an IV of 16 bytes (log entry 13). -/
def Obligations.EncryptMsgComputesEncrypt : Prop :=
  ∀ (k : List Byte) (mode : Mode) (iv : Block) (p : List Byte) (fill : Nat → Byte) (lat : Nat → Nat) (s : State),
    KeyLength k.length → ScheduleMadeFrom k s → ReadyForMessage s → p.length < 2 ^ 32 →
    ∃ (t : State) (c : List Byte),
      encryptRef k mode (some (blockBytes iv)) p = .ok c ∧
      encryptMsg mode iv p fill lat s = .next (t, .ok c) ∧
      c.length = 16 * (p.length / 16 + 1) ∧ ReadyForMessage t

/-- R242 for decryption: DECRYPT_MSG returns exactly the reference function's plaintext, or fails with the same error,
however long each command takes (an argument of the model's procedure, log entry 11). The procedure is given an IV of
16 bytes (log entry 13). -/
def Obligations.DecryptMsgComputesDecrypt : Prop :=
  ∀ (k : List Byte) (mode : Mode) (iv : Block) (c : List Byte) (lat : Nat → Nat) (s : State),
    KeyLength k.length → ScheduleMadeFrom k s → ReadyForMessage s → c.length < 2 ^ 32 →
    ∃ t : State,
      decryptMsg mode iv c lat s =
        .next (t, match decryptRef k mode (some (blockBytes iv)) c with
          | .ok p => .ok p
          | .error e => .error e.errCode.code)

/-- R242's last sentence, for the reference functions: for every key length, both modes and every plaintext, decrypting
what was encrypted gives the plaintext back. -/
def Obligations.DecryptUndoesEncrypt : Prop :=
  ∀ (k : List Byte) (mode : Mode) (iv : Option (List Byte)) (p : List Byte),
    KeyLength k.length → (mode = .cbc → ∃ v, iv = some v ∧ v.length = 16) →
    ∃ c, encryptRef k mode iv p = .ok c ∧ decryptRef k mode iv c = .ok p

/-! ### The whole machine -/

/-- The reset state meets the invariant. -/
def Obligations.ResetMeetsTheInvariant : Prop := State.reset.Inv ∧ State.reset.ScheduleHeld

/-- Every step of every state that meets the invariant leads to a state that meets it: R234's four controller
invariants, R23's field values, R36's zero fill, R43's empty latch while idle, and the bound on the blocks of a
message. -/
def Obligations.StepKeepsTheInvariant : Prop := ∀ s t : State, s.Inv → step s = .next t → t.Inv

/-- R22's meaning of KEY_VALID, kept by every step: a valid store holds the schedule of some key of the held round
count. -/
def Obligations.StepKeepsTheScheduleOfSomeKey : Prop :=
  ∀ s t : State, s.ScheduleHeld → step s = .next t → t.ScheduleHeld

/-- R234: the controller invariants hold in every state reached from reset, whatever the host and RST do. -/
def Obligations.ReachedStatesMeetTheControllerInvariants : Prop :=
  ∀ (events : List Event) (n : Nat) (t : State),
    Sys2Proof.core.run n { State.reset with inputs := events } = .next t →
    (t.msgActive = true → t.keyValid = true ∧ t.msgRemain.toNat ≥ 1) ∧
    (t.msgActive = false →
      t.msgDir = .enc ∧ t.msgMode = .ecb ∧ t.msgRemain = 0 ∧ t.msgTail = 0 ∧ t.chain = zeroBlock) ∧
    (t.msgMode = .ecb → t.chain = zeroBlock) ∧ (t.msgDir = .dec → t.msgTail = 0)

/-- R37: only a completing KEY_EXPAND and reset change the schedule, a KEY_EXPAND during a message raises SEQUENCE and
writes nothing else, and so the schedule stays the same for the whole of every message. -/
def Obligations.OnlyKeyExpandAndResetWriteTheSchedule : Prop :=
  (∀ s t : State, step s = .next t → ¬ (t.rkw = s.rkw ∧ t.nr = s.nr ∧ t.keyValid = s.keyValid) →
    ResetIsNext s ∨
      ((∃ rest, CompletionIsNext s rest) ∧ s.msgActive = false ∧ ∃ len, decode s.pending = .ok (.keyExpand len))) ∧
  (∀ (s : State) (len : Byte), s.msgActive = true → exec (.keyExpand len) s = .next { s with err := .sequence })

/-- R25: a CMD write while idle sets BUSY and latches the word, a completion clears BUSY, and nothing else writes BUSY
but reset. -/
def Obligations.OnlyIssueCompletionAndResetWriteBusy : Prop :=
  (∀ (s : State) (w : Word) (rest : List Event), s.inputs = .write 0x008 32 w :: rest → s.busy = false →
    step s = .next { s with busy := true, pending := w, inputs := rest, replies := .ok :: s.replies }) ∧
  (∀ (s : State) (rest : List Event), CompletionIsNext s rest →
    ∃ t, step s = .next t ∧ t.busy = false ∧ t.pending = 0 ∧ t.inputs = rest) ∧
  (∀ s t : State, step s = .next t → t.busy ≠ s.busy →
    ResetIsNext s ∨ (∃ rest, CompletionIsNext s rest) ∨ (s.busy = false ∧ ∃ w rest, s.inputs = .write 0x008 32 w :: rest))

/-- R29: a recorded error stays the first one until a CLR_ERR completes or a reset, which both set ERR to 0; an error is
recorded only by a completion with the gate open. -/
def Obligations.TheFirstErrorStays : Prop :=
  (∀ s t : State, step s = .next t → t.err ≠ s.err →
    ResetIsNext s ∨
    (∃ rest, CompletionIsNext s rest ∧
      (s.pending = 0x00000001 ∨ (s.err = .none ∧ s.ovr = false ∧ t.err ≠ .none)))) ∧
  (∀ s t : State, step s = .next t →
    (ResetIsNext s ∨ ∃ rest, CompletionIsNext s rest ∧ s.pending = 0x00000001) → t.err = .none ∧ t.ovr = false)

/-- R46, its column "writes": what each command may write; every other field is as it was. -/
def Obligations.CommandsWriteOnlyTheirRegisters : Prop :=
  ∀ (i : Instr) (s t : State), exec i s = .next t →
    match i with
    | .nop => t = s
    | .clrErr => t = { s with err := t.err, ovr := t.ovr }
    | .gfMul _ _ | .sbox _ | .invSbox _ => t = { s with result := t.result }
    | .keyExpand _ => t = { s with rkw := t.rkw, keyValid := t.keyValid, nr := t.nr, err := t.err }
    | .subBytes | .invSubBytes | .shiftRows | .invShiftRows | .mixColumns | .invMixColumns => t = { s with state := t.state }
    | .addRoundKey _ | .encBlock | .decBlock | .padAdd _ => t = { s with state := t.state, err := t.err }
    | .padCheck => t = { s with result := t.result, err := t.err }
    | .msgStart _ =>
      t = { s with
        msgActive := t.msgActive, msgDir := t.msgDir, msgMode := t.msgMode, msgRemain := t.msgRemain,
        msgTail := t.msgTail, chain := t.chain, iv := t.iv, ivWr := t.ivWr, dout := t.dout, doutBytes := t.doutBytes,
        err := t.err }
    | .msgBlock =>
      t = { s with
        dout := t.dout, doutBytes := t.doutBytes, chain := t.chain, msgRemain := t.msgRemain, msgActive := t.msgActive,
        msgDir := t.msgDir, msgMode := t.msgMode, msgTail := t.msgTail, err := t.err }
    | .msgAbort =>
      t = { s with
        msgActive := t.msgActive, msgDir := t.msgDir, msgMode := t.msgMode, msgRemain := t.msgRemain,
        msgTail := t.msgTail, chain := t.chain, doutBytes := t.doutBytes }

/-- R46, its column "reads": for every command, two states that agree on the registers the command reads (and need
agree on nothing else) come to hold the same value in every register it writes, or both keep every register but ERR and
record the same error; where an error has side effects (KEY_EXPAND, MSG_BLOCK), these agree too. Every register not
named keeps its own value in both. The gate, which reads ERR and OVR, stands around the command (log entry 10). -/
def Obligations.CommandsReadOnlyTheirRegisters : Prop :=
  ∀ (i : Instr) (s u t v : State), exec i s = .next t → exec i u = .next v →
    match i with
    | .nop => t = s ∧ v = u
    | .clrErr => ∃ e o, t = { s with err := e, ovr := o } ∧ v = { u with err := e, ovr := o }
    | .gfMul _ _ | .sbox _ | .invSbox _ => BothWriteResult s u t v
    | .keyExpand _ =>
      s.key = u.key → s.msgActive = u.msgActive →
        BothRaise s u t v ∨
        (∃ w r k, t = { s with rkw := w, nr := r, keyValid := k } ∧ v = { u with rkw := w, nr := r, keyValid := k }) ∨
        (∃ w r k e, e ≠ .none ∧ t = { s with rkw := w, nr := r, keyValid := k, err := e } ∧
          v = { u with rkw := w, nr := r, keyValid := k, err := e })
    | .subBytes | .invSubBytes | .shiftRows | .invShiftRows | .mixColumns | .invMixColumns =>
      s.state = u.state → BothWriteState s u t v
    | .addRoundKey _ | .encBlock | .decBlock =>
      s.state = u.state → s.rkw = u.rkw → s.keyValid = u.keyValid → s.nr = u.nr →
        BothRaise s u t v ∨ BothWriteState s u t v
    | .padAdd _ => s.state = u.state → BothRaise s u t v ∨ BothWriteState s u t v
    | .padCheck => s.state = u.state → BothRaise s u t v ∨ BothWriteResult s u t v
    | .msgStart _ =>
      s.msgLen = u.msgLen → s.iv = u.iv → s.ivWr = u.ivWr → s.keyValid = u.keyValid → s.msgActive = u.msgActive →
        BothRaise s u t v ∨
        (∃ act dir mode remain tail chain iv wr dout n,
          t = { s with
            msgActive := act, msgDir := dir, msgMode := mode, msgRemain := remain, msgTail := tail, chain := chain,
            iv := iv, ivWr := wr, dout := dout, doutBytes := n } ∧
          v = { u with
            msgActive := act, msgDir := dir, msgMode := mode, msgRemain := remain, msgTail := tail, chain := chain,
            iv := iv, ivWr := wr, dout := dout, doutBytes := n })
    | .msgBlock =>
      s.din = u.din → s.chain = u.chain → s.rkw = u.rkw → s.nr = u.nr → s.msgActive = u.msgActive → s.msgDir = u.msgDir →
        s.msgMode = u.msgMode → s.msgRemain = u.msgRemain → s.msgTail = u.msgTail →
        BothRaise s u t v ∨
        (∃ dout n chain remain act dir mode tail,
          t = { s with
            dout := dout, doutBytes := n, chain := chain, msgRemain := remain, msgActive := act, msgDir := dir,
            msgMode := mode, msgTail := tail } ∧
          v = { u with
            dout := dout, doutBytes := n, chain := chain, msgRemain := remain, msgActive := act, msgDir := dir,
            msgMode := mode, msgTail := tail }) ∨
        (∃ dout n chain remain act dir mode tail e, e ≠ .none ∧
          t = { s with
            dout := dout, doutBytes := n, chain := chain, msgRemain := remain, msgActive := act, msgDir := dir,
            msgMode := mode, msgTail := tail, err := e } ∧
          v = { u with
            dout := dout, doutBytes := n, chain := chain, msgRemain := remain, msgActive := act, msgDir := dir,
            msgMode := mode, msgTail := tail, err := e })
    | .msgAbort =>
      s.msgActive = u.msgActive →
        (t = s ∧ v = u) ∨
        (∃ act dir mode remain tail chain n,
          t = { s with
            msgActive := act, msgDir := dir, msgMode := mode, msgRemain := remain, msgTail := tail, chain := chain,
            doutBytes := n } ∧
          v = { u with
            msgActive := act, msgDir := dir, msgMode := mode, msgRemain := remain, msgTail := tail, chain := chain,
            doutBytes := n })

/-! ### The register window -/

/-- R54: a 32-bit read at a mapped offset answers what R54's list gives for that offset, whether BUSY is 0 or 1, and
changes nothing; any other read answers BusError and changes nothing. The registers' names stand for R20's offsets: what
`readReg` gives for a register is what the list gives at its offset. -/
def Obligations.ReadsAnswerTheRegisters : Prop :=
  (∀ (s : State) (off size : Nat) (rest : List Event), s.inputs = .read off size :: rest →
    ∃ a : Reply, step s = .next { s with inputs := rest, replies := a :: s.replies } ∧
      (size = 32 → MappedOffset off → ∃ w, ReadReturns s off w) ∧
      (∀ w, size = 32 → ReadReturns s off w → a = .data w) ∧
      (¬ (size = 32 ∧ MappedOffset off) → a = .busError)) ∧
  (∀ (s : State) (r : Reg), ReadReturns s r.offset (readReg r s))

/-- R55: a write to a mapped offset answers ok; while BUSY = 1 it only sets OVR; while idle it leaves what R55's list
gives for that offset: an issue, the word in its register (IV: with its IV_WR bit), or, for a read-only register, no
effect; an illegal access answers BusError and changes nothing. The registers' names stand for R20's offsets here too.
After a store the word reads back, and every other register reads as before but STATUS after a write to IV. -/
def Obligations.WritesStoreTheirWord : Prop :=
  (∀ (s : State) (off size : Nat) (v : Word) (rest : List Event), s.inputs = .write off size v :: rest →
    ∃ t, step s = .next t ∧
      (¬ (size = 32 ∧ MappedOffset off) → t = { s with inputs := rest, replies := .busError :: s.replies }) ∧
      (size = 32 → MappedOffset off → s.busy = true →
        t = { s with ovr := true, inputs := rest, replies := .ok :: s.replies }) ∧
      (size = 32 → MappedOffset off → s.busy = false →
        WriteLeaves { s with inputs := rest, replies := .ok :: s.replies } off v t)) ∧
  (∀ (s : State) (r : Reg) (v : Word), WriteLeaves s r.offset v (writeReg r v s)) ∧
  (∀ (s : State) (r q : Reg) (v : Word), r ≠ .cmd → q ≠ .status →
    readReg q (writeReg r v s) =
      if q = r ∧ (r = .msgLen ∨ (∃ j, r = .key j) ∨ (∃ j, r = .iv j) ∨ (∃ j, r = .state j) ∨ (∃ j, r = .din j)) then v
      else readReg q s)

/-- R52, R53 and R287: the accesses that answer BusError are exactly those of another size than 32 bits, of an offset
that is not a multiple of 4, or of an offset outside R53's list, whether BUSY is 0 or 1; they change no register and
do not set OVR. -/
def Obligations.BusErrorsHaveNoEffect : Prop :=
  (∀ off size : Nat, regAt off size = none ↔ (size ≠ 32 ∨ off % 4 ≠ 0 ∨ ¬ MappedOffset off)) ∧
  (∀ (s : State) (off size : Nat) (v : Word), (size ≠ 32 ∨ off % 4 ≠ 0 ∨ ¬ MappedOffset off) →
    performEvent (.read off size) s = .next { s with replies := .busError :: s.replies } ∧
    performEvent (.write off size v) s = .next { s with replies := .busError :: s.replies })

/-- R306 and R275: a write to any mapped offset while BUSY = 1 changes nothing but OVR, and the command pending then is
discarded at its completion. A pending CLR_ERR passes the gate by R100 and clears OVR again (log entry 9). -/
def Obligations.WritesWhileBusyAreDropped : Prop :=
  ∀ (s : State) (off : Nat) (v : Word), s.busy = true → MappedOffset off →
    runEvents [.write off 32 v] s = .next { s with ovr := true, replies := .ok :: s.replies } ∧
    (s.pending ≠ 0x00000001 →
      runEvents [.write off 32 v, .complete] s =
        .next { s with ovr := true, busy := false, pending := 0, replies := .ok :: s.replies }) ∧
    (s.pending = 0x00000001 →
      runEvents [.write off 32 v, .complete] s =
        .next { s with err := .none, ovr := false, busy := false, pending := 0, replies := .ok :: s.replies })

/-- R56: big-endian packing, for reads and for writes, so that a word written reads back and a block's words are its
bytes in order. -/
def Obligations.WordsPackBytesBigEndian : Prop :=
  (∀ (x : Block) (j : Fin 4),
    (regWord x j).extractLsb' 24 8 = x.getD (4 * j) 0 ∧ (regWord x j).extractLsb' 16 8 = x.getD (4 * j + 1) 0 ∧
    (regWord x j).extractLsb' 8 8 = x.getD (4 * j + 2) 0 ∧ (regWord x j).extractLsb' 0 8 = x.getD (4 * j + 3) 0) ∧
  (∀ (x : Block) (j : Fin 4) (v : Word),
    (setRegWord x j v).getD (4 * j) 0 = v.extractLsb' 24 8 ∧ (setRegWord x j v).getD (4 * j + 1) 0 = v.extractLsb' 16 8 ∧
    (setRegWord x j v).getD (4 * j + 2) 0 = v.extractLsb' 8 8 ∧ (setRegWord x j v).getD (4 * j + 3) 0 = v.extractLsb' 0 8 ∧
    (∀ i : Fin 4, regWord (setRegWord x j v) i = if i = j then v else regWord x i)) ∧
  (∀ v : BitVec 128, ∀ j : Fin 4, regWord (hexBlock v) j = v.extractLsb' (96 - 32 * j.val) 32)

/-- R22: each field of a STATUS read in its place, and the reserved bits 0; ERR's codes are those of R271, and NR's
values those of R22. -/
def Obligations.StatusShowsItsFields : Prop :=
  ∀ s : State,
    (readReg .status s).getLsbD 0 = s.busy ∧ (readReg .status s).getLsbD 1 = s.keyValid ∧
    (readReg .status s).getLsbD 2 = s.msgActive ∧ ((readReg .status s).getLsbD 3 = true ↔ s.msgDir = .dec) ∧
    ((readReg .status s).getLsbD 4 = true ↔ s.msgMode = .cbc) ∧ (readReg .status s).getLsbD 5 = s.ovr ∧
    (readReg .status s).extractLsb' 6 2 = 0 ∧
    ((readReg .status s).extractLsb' 8 4).toNat =
      (match s.err with
        | .none => 0
        | .invalidKeyLength => 1
        | .invalidIvLength => 2
        | .invalidBlockLength => 3
        | .invalidPadding => 4
        | .noKey => 5
        | .illegalCommand => 6
        | .badOperand => 7
        | .sequence => 8) ∧
    ((readReg .status s).extractLsb' 12 4).toNat =
      (match s.nr with
        | .none => 0
        | .ten => 10
        | .twelve => 12
        | .fourteen => 14) ∧ (readReg .status s).extractLsb' 16 5 = s.doutBytes ∧
    (readReg .status s).extractLsb' 21 3 = 0 ∧ (readReg .status s).extractLsb' 24 4 = s.ivWr ∧
    (readReg .status s).extractLsb' 28 4 = 0

/-- R307: reads while BUSY = 1 answer the values from before the command, STATUS among them with BUSY = 1, however many
there are, and the command's effects appear at its completion as if there had been none. -/
def Obligations.ReadsWhileBusySeeTheOldValues : Prop :=
  ∀ (s : State) (rs : List Reg), s.busy = true →
    runEvents (rs.map readEvent ++ [.complete]) s =
      mapNext (fun t => { t with replies := (rs.map fun r => Reply.data (readReg r s)).reverse ++ s.replies })
        (coreComplete s) ∧
    (readReg .status s).getLsbD 0 = true

/-- The steps taken from `inputs` are the events themselves, in order: running the machine for as many steps as there
are events is performing them one after another (R8, R61). The field `inputs` is the model's own (log entry 1). -/
def Obligations.InputsAreTakenInOrder : Prop :=
  ∀ (es rest : List Event) (s : State),
    Sys2Proof.core.run es.length { s with inputs := es ++ rest } = runEvents es { s with inputs := rest }

/-- A step is taken from every state whose next event is enabled (R8); from any other the model's step is the fault
completionNotEnabled, which is the model's choice (log entry 3: R8 says only that the step is not enabled); an idle core
with nothing asked of it stays as it is (R286); and a core whose host only reads completes its command within as many
steps as there are reads left and one more (R309). That a completion follows once `inputs` is used up is the model's
form of the fairness of R309 (log entry 5). -/
def Obligations.EnabledStepsAreTakenAndCommandsComplete : Prop :=
  (∀ s : State, s.enabled = true → ∃ t, step s = .next t) ∧
  (∀ s : State, s.enabled = false → step s = .fault .completionNotEnabled) ∧
  (∀ s : State, s.inputs = [] → s.busy = false → step s = .next s) ∧
  (∀ s : State, (∀ e ∈ s.inputs, ∃ off size, e = .read off size) → s.busy = true →
    ∃ t, Sys2Proof.core.run (s.inputs.length + 1) s = .next t ∧ t.busy = false)
end

