-- ==== Sys2Proof/Laws/Bus.lean ====
section
/-! SUPPORT. The register map read both ways, and the two outcomes of an access. -/

namespace Sys2Proof.Machine

theorem mem_allRegs (r : Reg) : r ∈ allRegs := by cases r <;> simp [allRegs]

/-- No two registers share an offset. -/
theorem offset_injective {r q : Reg} (h : r.offset = q.offset) : r = q := by
  cases r <;> cases q <;> simp only [Reg.offset, Reg.key.injEq, Reg.iv.injEq, Reg.chain.injEq, Reg.state.injEq,
    Reg.din.injEq, Reg.dout.injEq, Reg.rkw.injEq, reduceCtorEq] at h ⊢ <;> omega

theorem offset_mod_four (r : Reg) : r.offset % 4 = 0 := by cases r <;> simp only [Reg.offset] <;> omega

/-- The register at a register's own offset is that register. -/
@[simp] theorem regAt_offset (r : Reg) : regAt r.offset 32 = some r := by
  have h : (allRegs.find? fun q => q.offset = r.offset).isSome := by
    rw [List.find?_isSome]; exact ⟨r, mem_allRegs r, by simp⟩
  obtain ⟨q, hq⟩ := Option.isSome_iff_exists.mp h
  have hq' : q.offset = r.offset := by simpa using List.find?_some hq
  simp [regAt, offset_mod_four, hq, offset_injective hq']

/-- An access that reaches a register is a 32-bit access at that register's offset. -/
theorem regAt_eq_some {off size : Nat} {r : Reg} : regAt off size = some r ↔ size = 32 ∧ off = r.offset := by
  constructor
  · intro h
    unfold regAt at h
    split at h
    · cases h
    · rename_i hc
      have ho : r.offset = off := by simpa using List.find?_some h
      exact ⟨by omega, ho.symm⟩
  · rintro ⟨rfl, rfl⟩
    exact regAt_offset r

/-- A platform address in the window reaches the offset it is written as (R51). -/
theorem windowOffset_add {off : Nat} (h : off < 4096) : windowOffset (Config.aesBase + off) = some off := by
  simp [windowOffset, h]

/-- The window's base is a multiple of 4096 (R51). -/
theorem aesBase_aligned : 4096 ∣ Config.aesBase := ⟨_, rfl⟩

@[simp] theorem busRead_offset (r : Reg) (s : State) : busRead r.offset 32 s = .data (readReg r s) := by simp [busRead]

theorem busWrite_offset_idle (r : Reg) (v : Word) {s : State} (h : s.busy = false) :
    busWrite r.offset 32 v s = writeReg r v s := by simp [busWrite, h]

theorem busWrite_offset_busy (r : Reg) (v : Word) {s : State} (h : s.busy = true) :
    busWrite r.offset 32 v s = { s with ovr := true } := by simp [busWrite, h]

/-- An access that reaches no register changes nothing. -/
theorem busWrite_none {off size : Nat} (h : regAt off size = none) (v : Word) (s : State) :
    busWrite off size v s = s := by simp [busWrite, h]

/-- All that a write to the window may do: nothing, an overrun, or the write of one register. -/
theorem busWrite_cases (off size : Nat) (v : Word) (s : State) :
    (regAt off size = none ∧ busWrite off size v s = s) ∨
    (∃ r, regAt off size = some r ∧ s.busy = true ∧ busWrite off size v s = { s with ovr := true }) ∨
    (∃ r, regAt off size = some r ∧ s.busy = false ∧ busWrite off size v s = writeReg r v s) := by
  unfold busWrite
  cases h : regAt off size with
  | none => simp
  | some r => cases hb : s.busy <;> simp

end Sys2Proof.Machine
end

