-- ==== Sys2Proof/Laws/Decode.lean ====
section
/-! SUPPORT. The fields of a command word built from its fields, and when each operand form is accepted. -/

namespace Sys2Proof

@[simp] theorem opcField_commandWord (opc a b : Byte) : opcField (commandWord opc a b) = opc := by
  ext i hi; simp [opcField, commandWord]; grind

@[simp] theorem aField_commandWord (opc a b : Byte) : aField (commandWord opc a b) = a := by
  ext i hi; simp [aField, commandWord]; grind

@[simp] theorem bField_commandWord (opc a b : Byte) : bField (commandWord opc a b) = b := by
  ext i hi; simp [bField, commandWord]; grind

@[simp] theorem rsvField_commandWord (opc a b : Byte) : rsvField (commandWord opc a b) = 0#8 := by
  ext i hi; simp [rsvField, commandWord]; grind

/-- A word whose RSV is 0 is the command word of its fields. -/
theorem commandWord_fields {w : Word} (h : rsvField w = 0#8) : commandWord (opcField w) (aField w) (bField w) = w := by
  have hw : rsvField w ++ bField w ++ aField w ++ opcField w = w := by
    ext i hi; simp [rsvField, bField, aField, opcField]; grind
  rwa [h] at hw

/-- Decoding a word of fields is decoding the fields. -/
theorem decode_commandWord (opc a b : Byte) : decode (commandWord opc a b) = decodeOpcode opc a b := by
  simp [decode]

theorem plainForm_eq_ok {i j : Instr} {a b : Byte} : plainForm i a b = .ok j ↔ a = 0#8 ∧ b = 0#8 ∧ i = j := by
  unfold plainForm; split <;> [skip; split] <;> simp_all

theorem oneByteForm_eq_ok {f : Byte → Instr} {j : Instr} {a b : Byte} :
    oneByteForm f a b = .ok j ↔ b = 0#8 ∧ f a = j := by
  unfold oneByteForm; split <;> simp_all

theorem msgStartForm_eq_ok {j : Instr} {a b : Byte} :
    msgStartForm a b = .ok j ↔ a.extractLsb' 2 6 = 0#6 ∧ b = 0#8 ∧ .msgStart a = j := by
  unfold msgStartForm; split
  · simp_all
  · rename_i h; simp only [ne_eq, not_not] at h; simp [h, oneByteForm_eq_ok]

/-- What an accepted word says of its fields. -/
theorem decode_eq_ok {w : Word} {i : Instr} :
    decode w = .ok i ↔ rsvField w = 0#8 ∧ decodeOpcode (opcField w) (aField w) (bField w) = .ok i := by
  unfold decode; split <;> simp_all

/-- MSG_START's operand is read back from the bits it was built from. -/
theorem msgDirOf_operand (d : Dir) (m : Mode) : msgDirOf (msgStartOperand d m) = d := by cases d <;> cases m <;> rfl

theorem msgModeOf_operand (d : Dir) (m : Mode) : msgModeOf (msgStartOperand d m) = m := by cases d <;> cases m <;> rfl

end Sys2Proof
end

