-- ==== Sys2Proof/Laws/State.lean ====
section
/-! SUPPORT. What each named update leaves in each field of the state: one lemma for each, so that no proof unfolds a
record update. -/

namespace Sys2Proof.Machine

variable (s : State)


@[simp] theorem raise_busy (c : ErrCode) : (raise c s).busy = s.busy := rfl
@[simp] theorem raise_keyValid (c : ErrCode) : (raise c s).keyValid = s.keyValid := rfl
@[simp] theorem raise_msgActive (c : ErrCode) : (raise c s).msgActive = s.msgActive := rfl
@[simp] theorem raise_msgDir (c : ErrCode) : (raise c s).msgDir = s.msgDir := rfl
@[simp] theorem raise_msgMode (c : ErrCode) : (raise c s).msgMode = s.msgMode := rfl
@[simp] theorem raise_ovr (c : ErrCode) : (raise c s).ovr = s.ovr := rfl
@[simp] theorem raise_err (c : ErrCode) : (raise c s).err = c := rfl
@[simp] theorem raise_nr (c : ErrCode) : (raise c s).nr = s.nr := rfl
@[simp] theorem raise_doutBytes (c : ErrCode) : (raise c s).doutBytes = s.doutBytes := rfl
@[simp] theorem raise_ivWr (c : ErrCode) : (raise c s).ivWr = s.ivWr := rfl
@[simp] theorem raise_pending (c : ErrCode) : (raise c s).pending = s.pending := rfl
@[simp] theorem raise_result (c : ErrCode) : (raise c s).result = s.result := rfl
@[simp] theorem raise_msgLen (c : ErrCode) : (raise c s).msgLen = s.msgLen := rfl
@[simp] theorem raise_msgRemain (c : ErrCode) : (raise c s).msgRemain = s.msgRemain := rfl
@[simp] theorem raise_msgTail (c : ErrCode) : (raise c s).msgTail = s.msgTail := rfl
@[simp] theorem raise_key (c : ErrCode) : (raise c s).key = s.key := rfl
@[simp] theorem raise_iv (c : ErrCode) : (raise c s).iv = s.iv := rfl
@[simp] theorem raise_chain (c : ErrCode) : (raise c s).chain = s.chain := rfl
@[simp] theorem raise_state (c : ErrCode) : (raise c s).state = s.state := rfl
@[simp] theorem raise_din (c : ErrCode) : (raise c s).din = s.din := rfl
@[simp] theorem raise_dout (c : ErrCode) : (raise c s).dout = s.dout := rfl
@[simp] theorem raise_rkw (c : ErrCode) : (raise c s).rkw = s.rkw := rfl
@[simp] theorem raise_inputs (c : ErrCode) : (raise c s).inputs = s.inputs := rfl
@[simp] theorem raise_replies (c : ErrCode) : (raise c s).replies = s.replies := rfl

@[simp] theorem clearErrors_busy : (clearErrors s).busy = s.busy := rfl
@[simp] theorem clearErrors_keyValid : (clearErrors s).keyValid = s.keyValid := rfl
@[simp] theorem clearErrors_msgActive : (clearErrors s).msgActive = s.msgActive := rfl
@[simp] theorem clearErrors_msgDir : (clearErrors s).msgDir = s.msgDir := rfl
@[simp] theorem clearErrors_msgMode : (clearErrors s).msgMode = s.msgMode := rfl
@[simp] theorem clearErrors_ovr : (clearErrors s).ovr = false := rfl
@[simp] theorem clearErrors_err : (clearErrors s).err = .none := rfl
@[simp] theorem clearErrors_nr : (clearErrors s).nr = s.nr := rfl
@[simp] theorem clearErrors_doutBytes : (clearErrors s).doutBytes = s.doutBytes := rfl
@[simp] theorem clearErrors_ivWr : (clearErrors s).ivWr = s.ivWr := rfl
@[simp] theorem clearErrors_pending : (clearErrors s).pending = s.pending := rfl
@[simp] theorem clearErrors_result : (clearErrors s).result = s.result := rfl
@[simp] theorem clearErrors_msgLen : (clearErrors s).msgLen = s.msgLen := rfl
@[simp] theorem clearErrors_msgRemain : (clearErrors s).msgRemain = s.msgRemain := rfl
@[simp] theorem clearErrors_msgTail : (clearErrors s).msgTail = s.msgTail := rfl
@[simp] theorem clearErrors_key : (clearErrors s).key = s.key := rfl
@[simp] theorem clearErrors_iv : (clearErrors s).iv = s.iv := rfl
@[simp] theorem clearErrors_chain : (clearErrors s).chain = s.chain := rfl
@[simp] theorem clearErrors_state : (clearErrors s).state = s.state := rfl
@[simp] theorem clearErrors_din : (clearErrors s).din = s.din := rfl
@[simp] theorem clearErrors_dout : (clearErrors s).dout = s.dout := rfl
@[simp] theorem clearErrors_rkw : (clearErrors s).rkw = s.rkw := rfl
@[simp] theorem clearErrors_inputs : (clearErrors s).inputs = s.inputs := rfl
@[simp] theorem clearErrors_replies : (clearErrors s).replies = s.replies := rfl

@[simp] theorem writeResult_busy (v : Byte) : (writeResult v s).busy = s.busy := rfl
@[simp] theorem writeResult_keyValid (v : Byte) : (writeResult v s).keyValid = s.keyValid := rfl
@[simp] theorem writeResult_msgActive (v : Byte) : (writeResult v s).msgActive = s.msgActive := rfl
@[simp] theorem writeResult_msgDir (v : Byte) : (writeResult v s).msgDir = s.msgDir := rfl
@[simp] theorem writeResult_msgMode (v : Byte) : (writeResult v s).msgMode = s.msgMode := rfl
@[simp] theorem writeResult_ovr (v : Byte) : (writeResult v s).ovr = s.ovr := rfl
@[simp] theorem writeResult_err (v : Byte) : (writeResult v s).err = s.err := rfl
@[simp] theorem writeResult_nr (v : Byte) : (writeResult v s).nr = s.nr := rfl
@[simp] theorem writeResult_doutBytes (v : Byte) : (writeResult v s).doutBytes = s.doutBytes := rfl
@[simp] theorem writeResult_ivWr (v : Byte) : (writeResult v s).ivWr = s.ivWr := rfl
@[simp] theorem writeResult_pending (v : Byte) : (writeResult v s).pending = s.pending := rfl
@[simp] theorem writeResult_result (v : Byte) : (writeResult v s).result = v := rfl
@[simp] theorem writeResult_msgLen (v : Byte) : (writeResult v s).msgLen = s.msgLen := rfl
@[simp] theorem writeResult_msgRemain (v : Byte) : (writeResult v s).msgRemain = s.msgRemain := rfl
@[simp] theorem writeResult_msgTail (v : Byte) : (writeResult v s).msgTail = s.msgTail := rfl
@[simp] theorem writeResult_key (v : Byte) : (writeResult v s).key = s.key := rfl
@[simp] theorem writeResult_iv (v : Byte) : (writeResult v s).iv = s.iv := rfl
@[simp] theorem writeResult_chain (v : Byte) : (writeResult v s).chain = s.chain := rfl
@[simp] theorem writeResult_state (v : Byte) : (writeResult v s).state = s.state := rfl
@[simp] theorem writeResult_din (v : Byte) : (writeResult v s).din = s.din := rfl
@[simp] theorem writeResult_dout (v : Byte) : (writeResult v s).dout = s.dout := rfl
@[simp] theorem writeResult_rkw (v : Byte) : (writeResult v s).rkw = s.rkw := rfl
@[simp] theorem writeResult_inputs (v : Byte) : (writeResult v s).inputs = s.inputs := rfl
@[simp] theorem writeResult_replies (v : Byte) : (writeResult v s).replies = s.replies := rfl

@[simp] theorem writeState_busy (b : Block) : (writeState b s).busy = s.busy := rfl
@[simp] theorem writeState_keyValid (b : Block) : (writeState b s).keyValid = s.keyValid := rfl
@[simp] theorem writeState_msgActive (b : Block) : (writeState b s).msgActive = s.msgActive := rfl
@[simp] theorem writeState_msgDir (b : Block) : (writeState b s).msgDir = s.msgDir := rfl
@[simp] theorem writeState_msgMode (b : Block) : (writeState b s).msgMode = s.msgMode := rfl
@[simp] theorem writeState_ovr (b : Block) : (writeState b s).ovr = s.ovr := rfl
@[simp] theorem writeState_err (b : Block) : (writeState b s).err = s.err := rfl
@[simp] theorem writeState_nr (b : Block) : (writeState b s).nr = s.nr := rfl
@[simp] theorem writeState_doutBytes (b : Block) : (writeState b s).doutBytes = s.doutBytes := rfl
@[simp] theorem writeState_ivWr (b : Block) : (writeState b s).ivWr = s.ivWr := rfl
@[simp] theorem writeState_pending (b : Block) : (writeState b s).pending = s.pending := rfl
@[simp] theorem writeState_result (b : Block) : (writeState b s).result = s.result := rfl
@[simp] theorem writeState_msgLen (b : Block) : (writeState b s).msgLen = s.msgLen := rfl
@[simp] theorem writeState_msgRemain (b : Block) : (writeState b s).msgRemain = s.msgRemain := rfl
@[simp] theorem writeState_msgTail (b : Block) : (writeState b s).msgTail = s.msgTail := rfl
@[simp] theorem writeState_key (b : Block) : (writeState b s).key = s.key := rfl
@[simp] theorem writeState_iv (b : Block) : (writeState b s).iv = s.iv := rfl
@[simp] theorem writeState_chain (b : Block) : (writeState b s).chain = s.chain := rfl
@[simp] theorem writeState_state (b : Block) : (writeState b s).state = b := rfl
@[simp] theorem writeState_din (b : Block) : (writeState b s).din = s.din := rfl
@[simp] theorem writeState_dout (b : Block) : (writeState b s).dout = s.dout := rfl
@[simp] theorem writeState_rkw (b : Block) : (writeState b s).rkw = s.rkw := rfl
@[simp] theorem writeState_inputs (b : Block) : (writeState b s).inputs = s.inputs := rfl
@[simp] theorem writeState_replies (b : Block) : (writeState b s).replies = s.replies := rfl

@[simp] theorem endMessage_busy : (endMessage s).busy = s.busy := rfl
@[simp] theorem endMessage_keyValid : (endMessage s).keyValid = s.keyValid := rfl
@[simp] theorem endMessage_msgActive : (endMessage s).msgActive = false := rfl
@[simp] theorem endMessage_msgDir : (endMessage s).msgDir = .enc := rfl
@[simp] theorem endMessage_msgMode : (endMessage s).msgMode = .ecb := rfl
@[simp] theorem endMessage_ovr : (endMessage s).ovr = s.ovr := rfl
@[simp] theorem endMessage_err : (endMessage s).err = s.err := rfl
@[simp] theorem endMessage_nr : (endMessage s).nr = s.nr := rfl
@[simp] theorem endMessage_doutBytes : (endMessage s).doutBytes = s.doutBytes := rfl
@[simp] theorem endMessage_ivWr : (endMessage s).ivWr = s.ivWr := rfl
@[simp] theorem endMessage_pending : (endMessage s).pending = s.pending := rfl
@[simp] theorem endMessage_result : (endMessage s).result = s.result := rfl
@[simp] theorem endMessage_msgLen : (endMessage s).msgLen = s.msgLen := rfl
@[simp] theorem endMessage_msgRemain : (endMessage s).msgRemain = 0 := rfl
@[simp] theorem endMessage_msgTail : (endMessage s).msgTail = 0 := rfl
@[simp] theorem endMessage_key : (endMessage s).key = s.key := rfl
@[simp] theorem endMessage_iv : (endMessage s).iv = s.iv := rfl
@[simp] theorem endMessage_chain : (endMessage s).chain = zeroBlock := rfl
@[simp] theorem endMessage_state : (endMessage s).state = s.state := rfl
@[simp] theorem endMessage_din : (endMessage s).din = s.din := rfl
@[simp] theorem endMessage_dout : (endMessage s).dout = s.dout := rfl
@[simp] theorem endMessage_rkw : (endMessage s).rkw = s.rkw := rfl
@[simp] theorem endMessage_inputs : (endMessage s).inputs = s.inputs := rfl
@[simp] theorem endMessage_replies : (endMessage s).replies = s.replies := rfl

@[simp] theorem writeDout_busy (b : Block) (n : BitVec 5) : (writeDout b n s).busy = s.busy := rfl
@[simp] theorem writeDout_keyValid (b : Block) (n : BitVec 5) : (writeDout b n s).keyValid = s.keyValid := rfl
@[simp] theorem writeDout_msgActive (b : Block) (n : BitVec 5) : (writeDout b n s).msgActive = s.msgActive := rfl
@[simp] theorem writeDout_msgDir (b : Block) (n : BitVec 5) : (writeDout b n s).msgDir = s.msgDir := rfl
@[simp] theorem writeDout_msgMode (b : Block) (n : BitVec 5) : (writeDout b n s).msgMode = s.msgMode := rfl
@[simp] theorem writeDout_ovr (b : Block) (n : BitVec 5) : (writeDout b n s).ovr = s.ovr := rfl
@[simp] theorem writeDout_err (b : Block) (n : BitVec 5) : (writeDout b n s).err = s.err := rfl
@[simp] theorem writeDout_nr (b : Block) (n : BitVec 5) : (writeDout b n s).nr = s.nr := rfl
@[simp] theorem writeDout_doutBytes (b : Block) (n : BitVec 5) : (writeDout b n s).doutBytes = n := rfl
@[simp] theorem writeDout_ivWr (b : Block) (n : BitVec 5) : (writeDout b n s).ivWr = s.ivWr := rfl
@[simp] theorem writeDout_pending (b : Block) (n : BitVec 5) : (writeDout b n s).pending = s.pending := rfl
@[simp] theorem writeDout_result (b : Block) (n : BitVec 5) : (writeDout b n s).result = s.result := rfl
@[simp] theorem writeDout_msgLen (b : Block) (n : BitVec 5) : (writeDout b n s).msgLen = s.msgLen := rfl
@[simp] theorem writeDout_msgRemain (b : Block) (n : BitVec 5) : (writeDout b n s).msgRemain = s.msgRemain := rfl
@[simp] theorem writeDout_msgTail (b : Block) (n : BitVec 5) : (writeDout b n s).msgTail = s.msgTail := rfl
@[simp] theorem writeDout_key (b : Block) (n : BitVec 5) : (writeDout b n s).key = s.key := rfl
@[simp] theorem writeDout_iv (b : Block) (n : BitVec 5) : (writeDout b n s).iv = s.iv := rfl
@[simp] theorem writeDout_chain (b : Block) (n : BitVec 5) : (writeDout b n s).chain = s.chain := rfl
@[simp] theorem writeDout_state (b : Block) (n : BitVec 5) : (writeDout b n s).state = s.state := rfl
@[simp] theorem writeDout_din (b : Block) (n : BitVec 5) : (writeDout b n s).din = s.din := rfl
@[simp] theorem writeDout_dout (b : Block) (n : BitVec 5) : (writeDout b n s).dout = b := rfl
@[simp] theorem writeDout_rkw (b : Block) (n : BitVec 5) : (writeDout b n s).rkw = s.rkw := rfl
@[simp] theorem writeDout_inputs (b : Block) (n : BitVec 5) : (writeDout b n s).inputs = s.inputs := rfl
@[simp] theorem writeDout_replies (b : Block) (n : BitVec 5) : (writeDout b n s).replies = s.replies := rfl

@[simp] theorem dropSchedule_busy : (dropSchedule s).busy = s.busy := rfl
@[simp] theorem dropSchedule_keyValid : (dropSchedule s).keyValid = false := rfl
@[simp] theorem dropSchedule_msgActive : (dropSchedule s).msgActive = s.msgActive := rfl
@[simp] theorem dropSchedule_msgDir : (dropSchedule s).msgDir = s.msgDir := rfl
@[simp] theorem dropSchedule_msgMode : (dropSchedule s).msgMode = s.msgMode := rfl
@[simp] theorem dropSchedule_ovr : (dropSchedule s).ovr = s.ovr := rfl
@[simp] theorem dropSchedule_err : (dropSchedule s).err = s.err := rfl
@[simp] theorem dropSchedule_nr : (dropSchedule s).nr = .none := rfl
@[simp] theorem dropSchedule_doutBytes : (dropSchedule s).doutBytes = s.doutBytes := rfl
@[simp] theorem dropSchedule_ivWr : (dropSchedule s).ivWr = s.ivWr := rfl
@[simp] theorem dropSchedule_pending : (dropSchedule s).pending = s.pending := rfl
@[simp] theorem dropSchedule_result : (dropSchedule s).result = s.result := rfl
@[simp] theorem dropSchedule_msgLen : (dropSchedule s).msgLen = s.msgLen := rfl
@[simp] theorem dropSchedule_msgRemain : (dropSchedule s).msgRemain = s.msgRemain := rfl
@[simp] theorem dropSchedule_msgTail : (dropSchedule s).msgTail = s.msgTail := rfl
@[simp] theorem dropSchedule_key : (dropSchedule s).key = s.key := rfl
@[simp] theorem dropSchedule_iv : (dropSchedule s).iv = s.iv := rfl
@[simp] theorem dropSchedule_chain : (dropSchedule s).chain = s.chain := rfl
@[simp] theorem dropSchedule_state : (dropSchedule s).state = s.state := rfl
@[simp] theorem dropSchedule_din : (dropSchedule s).din = s.din := rfl
@[simp] theorem dropSchedule_dout : (dropSchedule s).dout = s.dout := rfl
@[simp] theorem dropSchedule_rkw : (dropSchedule s).rkw = Vector.replicate 60 0#32 := rfl
@[simp] theorem dropSchedule_inputs : (dropSchedule s).inputs = s.inputs := rfl
@[simp] theorem dropSchedule_replies : (dropSchedule s).replies = s.replies := rfl

@[simp] theorem holdSchedule_busy (r : Rounds) (w : Vector Word 60) : (holdSchedule r w s).busy = s.busy := rfl
@[simp] theorem holdSchedule_keyValid (r : Rounds) (w : Vector Word 60) : (holdSchedule r w s).keyValid = true := rfl
@[simp] theorem holdSchedule_msgActive (r : Rounds) (w : Vector Word 60) : (holdSchedule r w s).msgActive = s.msgActive := rfl
@[simp] theorem holdSchedule_msgDir (r : Rounds) (w : Vector Word 60) : (holdSchedule r w s).msgDir = s.msgDir := rfl
@[simp] theorem holdSchedule_msgMode (r : Rounds) (w : Vector Word 60) : (holdSchedule r w s).msgMode = s.msgMode := rfl
@[simp] theorem holdSchedule_ovr (r : Rounds) (w : Vector Word 60) : (holdSchedule r w s).ovr = s.ovr := rfl
@[simp] theorem holdSchedule_err (r : Rounds) (w : Vector Word 60) : (holdSchedule r w s).err = s.err := rfl
@[simp] theorem holdSchedule_nr (r : Rounds) (w : Vector Word 60) : (holdSchedule r w s).nr = r := rfl
@[simp] theorem holdSchedule_doutBytes (r : Rounds) (w : Vector Word 60) : (holdSchedule r w s).doutBytes = s.doutBytes := rfl
@[simp] theorem holdSchedule_ivWr (r : Rounds) (w : Vector Word 60) : (holdSchedule r w s).ivWr = s.ivWr := rfl
@[simp] theorem holdSchedule_pending (r : Rounds) (w : Vector Word 60) : (holdSchedule r w s).pending = s.pending := rfl
@[simp] theorem holdSchedule_result (r : Rounds) (w : Vector Word 60) : (holdSchedule r w s).result = s.result := rfl
@[simp] theorem holdSchedule_msgLen (r : Rounds) (w : Vector Word 60) : (holdSchedule r w s).msgLen = s.msgLen := rfl
@[simp] theorem holdSchedule_msgRemain (r : Rounds) (w : Vector Word 60) : (holdSchedule r w s).msgRemain = s.msgRemain := rfl
@[simp] theorem holdSchedule_msgTail (r : Rounds) (w : Vector Word 60) : (holdSchedule r w s).msgTail = s.msgTail := rfl
@[simp] theorem holdSchedule_key (r : Rounds) (w : Vector Word 60) : (holdSchedule r w s).key = s.key := rfl
@[simp] theorem holdSchedule_iv (r : Rounds) (w : Vector Word 60) : (holdSchedule r w s).iv = s.iv := rfl
@[simp] theorem holdSchedule_chain (r : Rounds) (w : Vector Word 60) : (holdSchedule r w s).chain = s.chain := rfl
@[simp] theorem holdSchedule_state (r : Rounds) (w : Vector Word 60) : (holdSchedule r w s).state = s.state := rfl
@[simp] theorem holdSchedule_din (r : Rounds) (w : Vector Word 60) : (holdSchedule r w s).din = s.din := rfl
@[simp] theorem holdSchedule_dout (r : Rounds) (w : Vector Word 60) : (holdSchedule r w s).dout = s.dout := rfl
@[simp] theorem holdSchedule_rkw (r : Rounds) (w : Vector Word 60) : (holdSchedule r w s).rkw = w := rfl
@[simp] theorem holdSchedule_inputs (r : Rounds) (w : Vector Word 60) : (holdSchedule r w s).inputs = s.inputs := rfl
@[simp] theorem holdSchedule_replies (r : Rounds) (w : Vector Word 60) : (holdSchedule r w s).replies = s.replies := rfl

@[simp] theorem issue_busy (w : Word) : (issue w s).busy = true := rfl
@[simp] theorem issue_keyValid (w : Word) : (issue w s).keyValid = s.keyValid := rfl
@[simp] theorem issue_msgActive (w : Word) : (issue w s).msgActive = s.msgActive := rfl
@[simp] theorem issue_msgDir (w : Word) : (issue w s).msgDir = s.msgDir := rfl
@[simp] theorem issue_msgMode (w : Word) : (issue w s).msgMode = s.msgMode := rfl
@[simp] theorem issue_ovr (w : Word) : (issue w s).ovr = s.ovr := rfl
@[simp] theorem issue_err (w : Word) : (issue w s).err = s.err := rfl
@[simp] theorem issue_nr (w : Word) : (issue w s).nr = s.nr := rfl
@[simp] theorem issue_doutBytes (w : Word) : (issue w s).doutBytes = s.doutBytes := rfl
@[simp] theorem issue_ivWr (w : Word) : (issue w s).ivWr = s.ivWr := rfl
@[simp] theorem issue_pending (w : Word) : (issue w s).pending = w := rfl
@[simp] theorem issue_result (w : Word) : (issue w s).result = s.result := rfl
@[simp] theorem issue_msgLen (w : Word) : (issue w s).msgLen = s.msgLen := rfl
@[simp] theorem issue_msgRemain (w : Word) : (issue w s).msgRemain = s.msgRemain := rfl
@[simp] theorem issue_msgTail (w : Word) : (issue w s).msgTail = s.msgTail := rfl
@[simp] theorem issue_key (w : Word) : (issue w s).key = s.key := rfl
@[simp] theorem issue_iv (w : Word) : (issue w s).iv = s.iv := rfl
@[simp] theorem issue_chain (w : Word) : (issue w s).chain = s.chain := rfl
@[simp] theorem issue_state (w : Word) : (issue w s).state = s.state := rfl
@[simp] theorem issue_din (w : Word) : (issue w s).din = s.din := rfl
@[simp] theorem issue_dout (w : Word) : (issue w s).dout = s.dout := rfl
@[simp] theorem issue_rkw (w : Word) : (issue w s).rkw = s.rkw := rfl
@[simp] theorem issue_inputs (w : Word) : (issue w s).inputs = s.inputs := rfl
@[simp] theorem issue_replies (w : Word) : (issue w s).replies = s.replies := rfl

@[simp] theorem retire_busy : (retire s).busy = false := rfl
@[simp] theorem retire_keyValid : (retire s).keyValid = s.keyValid := rfl
@[simp] theorem retire_msgActive : (retire s).msgActive = s.msgActive := rfl
@[simp] theorem retire_msgDir : (retire s).msgDir = s.msgDir := rfl
@[simp] theorem retire_msgMode : (retire s).msgMode = s.msgMode := rfl
@[simp] theorem retire_ovr : (retire s).ovr = s.ovr := rfl
@[simp] theorem retire_err : (retire s).err = s.err := rfl
@[simp] theorem retire_nr : (retire s).nr = s.nr := rfl
@[simp] theorem retire_doutBytes : (retire s).doutBytes = s.doutBytes := rfl
@[simp] theorem retire_ivWr : (retire s).ivWr = s.ivWr := rfl
@[simp] theorem retire_pending : (retire s).pending = 0 := rfl
@[simp] theorem retire_result : (retire s).result = s.result := rfl
@[simp] theorem retire_msgLen : (retire s).msgLen = s.msgLen := rfl
@[simp] theorem retire_msgRemain : (retire s).msgRemain = s.msgRemain := rfl
@[simp] theorem retire_msgTail : (retire s).msgTail = s.msgTail := rfl
@[simp] theorem retire_key : (retire s).key = s.key := rfl
@[simp] theorem retire_iv : (retire s).iv = s.iv := rfl
@[simp] theorem retire_chain : (retire s).chain = s.chain := rfl
@[simp] theorem retire_state : (retire s).state = s.state := rfl
@[simp] theorem retire_din : (retire s).din = s.din := rfl
@[simp] theorem retire_dout : (retire s).dout = s.dout := rfl
@[simp] theorem retire_rkw : (retire s).rkw = s.rkw := rfl
@[simp] theorem retire_inputs : (retire s).inputs = s.inputs := rfl
@[simp] theorem retire_replies : (retire s).replies = s.replies := rfl

@[simp] theorem answer_busy (r : Reply) : (answer r s).busy = s.busy := rfl
@[simp] theorem answer_keyValid (r : Reply) : (answer r s).keyValid = s.keyValid := rfl
@[simp] theorem answer_msgActive (r : Reply) : (answer r s).msgActive = s.msgActive := rfl
@[simp] theorem answer_msgDir (r : Reply) : (answer r s).msgDir = s.msgDir := rfl
@[simp] theorem answer_msgMode (r : Reply) : (answer r s).msgMode = s.msgMode := rfl
@[simp] theorem answer_ovr (r : Reply) : (answer r s).ovr = s.ovr := rfl
@[simp] theorem answer_err (r : Reply) : (answer r s).err = s.err := rfl
@[simp] theorem answer_nr (r : Reply) : (answer r s).nr = s.nr := rfl
@[simp] theorem answer_doutBytes (r : Reply) : (answer r s).doutBytes = s.doutBytes := rfl
@[simp] theorem answer_ivWr (r : Reply) : (answer r s).ivWr = s.ivWr := rfl
@[simp] theorem answer_pending (r : Reply) : (answer r s).pending = s.pending := rfl
@[simp] theorem answer_result (r : Reply) : (answer r s).result = s.result := rfl
@[simp] theorem answer_msgLen (r : Reply) : (answer r s).msgLen = s.msgLen := rfl
@[simp] theorem answer_msgRemain (r : Reply) : (answer r s).msgRemain = s.msgRemain := rfl
@[simp] theorem answer_msgTail (r : Reply) : (answer r s).msgTail = s.msgTail := rfl
@[simp] theorem answer_key (r : Reply) : (answer r s).key = s.key := rfl
@[simp] theorem answer_iv (r : Reply) : (answer r s).iv = s.iv := rfl
@[simp] theorem answer_chain (r : Reply) : (answer r s).chain = s.chain := rfl
@[simp] theorem answer_state (r : Reply) : (answer r s).state = s.state := rfl
@[simp] theorem answer_din (r : Reply) : (answer r s).din = s.din := rfl
@[simp] theorem answer_dout (r : Reply) : (answer r s).dout = s.dout := rfl
@[simp] theorem answer_rkw (r : Reply) : (answer r s).rkw = s.rkw := rfl
@[simp] theorem answer_inputs (r : Reply) : (answer r s).inputs = s.inputs := rfl
@[simp] theorem answer_replies (r : Reply) : (answer r s).replies = r :: s.replies := rfl

end Sys2Proof.Machine
end

