-- ==== Sys2Proof/Laws/Execute.lean ====
section
/-! SUPPORT. What a completion does, case by case (40_control.md R100). -/

namespace Sys2Proof.Machine

theorem gateClosed_eq_false {s : State} : gateClosed s = false ↔ s.err = .none ∧ s.ovr = false := by
  simp [gateClosed]

/-- Every command completes: its meaning answers a next state in every state. -/
theorem exec_answers_next (i : Instr) (s : State) : ∃ t, exec i s = .next t := by
  cases i <;> simp only [exec, execNop, execClrErr, execGfMul, execSbox, execInvSbox, execKeyExpand, execSubBytes,
    execInvSubBytes, execShiftRows, execInvShiftRows, execMixColumns, execInvMixColumns, execAddRoundKey, execEncBlock,
    execDecBlock, execPadAdd, execPadCheck, execMsgStart, execMsgBlock, execMsgAbort] <;>
    (repeat' split) <;> exact ⟨_, rfl⟩

/-- With the gate closed, only the word of CLR_ERR has an effect (R274). -/
theorem execute_closed {s : State} (h : gateClosed s = true) (w : Word) :
    execute w s = if decode w = .ok .clrErr then .next (clearErrors s) else .next s := by
  unfold execute executeGateClosed
  rw [if_pos h]
  split <;> simp_all [exec, execClrErr]

theorem execute_open_ok {s : State} {w : Word} {i : Instr} (h : gateClosed s = false) (hd : decode w = .ok i) :
    execute w s = exec i s := by
  simp [execute, executeGateOpen, h, hd]

theorem execute_open_error {s : State} {w : Word} {e : Illegal} (h : gateClosed s = false)
    (hd : decode w = .error e) : execute w s = .next (raise .illegalCommand s) := by
  simp [execute, executeGateOpen, h, hd]

/-- All that a performed word may do: be discarded, return from an error, be illegal, or run. -/
theorem execute_cases {w : Word} {s t : State} (h : execute w s = .next t) :
    (gateClosed s = true ∧ decode w ≠ .ok .clrErr ∧ t = s) ∨
    (gateClosed s = true ∧ decode w = .ok .clrErr ∧ t = clearErrors s) ∨
    (gateClosed s = false ∧ (∃ e, decode w = .error e) ∧ t = raise .illegalCommand s) ∨
    (gateClosed s = false ∧ ∃ i, decode w = .ok i ∧ exec i s = .next t) := by
  cases hg : gateClosed s with
  | true =>
    rw [execute_closed hg] at h
    by_cases hd : decode w = .ok .clrErr
    · simp [hd] at h; exact .inr (.inl ⟨rfl, hd, h.symm⟩)
    · simp [hd] at h; exact .inl ⟨rfl, hd, h.symm⟩
  | false =>
    cases hd : decode w with
    | error e =>
      rw [execute_open_error hg hd] at h
      simp at h; exact .inr (.inr (.inl ⟨rfl, ⟨e, rfl⟩, h.symm⟩))
    | ok i =>
      rw [execute_open_ok hg hd] at h
      exact .inr (.inr (.inr ⟨rfl, i, rfl, h⟩))

theorem mapNext_eq_next {f : State → State} {o : Result} {t : State} :
    mapNext f o = .next t ↔ ∃ u, o = .next u ∧ t = f u := by
  cases o <;> simp [mapNext, eq_comm]

/-- A completion is the performing of PENDING, then the end of the completion. -/
theorem coreComplete_eq_next {s t : State} :
    coreComplete s = .next t ↔ ∃ u, execute s.pending s = .next u ∧ t = retire u := mapNext_eq_next

/-- A word is performed to a next state in every state. -/
theorem execute_answers_next (w : Word) (s : State) : ∃ t, execute w s = .next t := by
  cases hg : gateClosed s with
  | true => rw [execute_closed hg]; split <;> exact ⟨_, rfl⟩
  | false =>
    cases hd : decode w with
    | error e => exact ⟨_, execute_open_error hg hd⟩
    | ok i => rw [execute_open_ok hg hd]; exact exec_answers_next i s

end Sys2Proof.Machine
end

