-- ==== Sys2Proof/Laws/Events.lean ====
section
/-! SUPPORT. What a step can do, said once (00_scope.md R8); every statement about all steps is a case analysis on
it. -/

namespace Sys2Proof.Machine

@[simp] theorem resetCore_inputs (s : State) : (resetCore s).inputs = s.inputs := rfl
@[simp] theorem resetCore_replies (s : State) : (resetCore s).replies = s.replies := rfl

/-- The kinds of step of R8, and the idle core. `u` is the state with the event taken off `inputs`. -/
inductive StepKind (s t : State) : Prop
  | idle (hi : s.inputs = []) (hb : s.busy = false) (ht : t = s)
  | read (off size : Nat) (rest : List Event) (hi : s.inputs = .read off size :: rest)
      (ht : t = answer (busRead off size { s with inputs := rest }) { s with inputs := rest })
  | write (off size : Nat) (v : Word) (rest : List Event) (hi : s.inputs = .write off size v :: rest)
      (ht : t = answer (busWriteReply off size) (busWrite off size v { s with inputs := rest }))
  | complete (rest : List Event) (hi : s.inputs = .complete :: rest ∨ (s.inputs = [] ∧ rest = []))
      (hb : s.busy = true) (ht : coreComplete { s with inputs := rest } = .next t)
  | reset (rest : List Event) (hi : s.inputs = .reset :: rest) (ht : t = resetCore { s with inputs := rest })

/-- Every next state comes from one of the kinds of step. -/
theorem step_cases {s t : State} (h : step s = .next t) : StepKind s t := by
  unfold step nextStep at h
  cases hi : s.inputs with
  | nil =>
    rw [hi] at h
    simp only [performUnprompted] at h
    cases hb : s.busy with
    | false => simp [hb] at h; exact .idle hi hb h.symm
    | true =>
      simp only [hb, if_true] at h
      refine .complete [] (.inr ⟨hi, rfl⟩) hb ?_
      rw [← hi]; exact h
  | cons e rest =>
    rw [hi] at h
    cases e with
    | read off size => simp [performEvent] at h; exact .read off size rest hi h.symm
    | write off size v => simp [performEvent] at h; exact .write off size v rest hi h.symm
    | reset => simp [performEvent] at h; exact .reset rest hi h.symm
    | complete =>
      simp only [performEvent] at h
      split at h
      · rename_i hb; exact .complete rest (.inl hi) hb h
      · cases h

end Sys2Proof.Machine
end

