-- ==== Sys2Proof/Laws/Message.lean ====
section
/-! SUPPORT. The message controller's shared operations, case by case (46_modes.md R235, R236). -/

namespace Sys2Proof.Machine

/-- MSG_START's checks pass exactly under R235's conditions. -/
theorem msgStartCheck_eq_none {dir : Dir} {mode : Mode} {s : State} :
    msgStartCheck dir mode s = none ↔
      s.msgActive = false ∧ s.keyValid = true ∧ (mode = .cbc → s.ivWr = 0b1111#4) ∧
      (dir = .dec → s.msgLen.toNat % 16 = 0 ∧ s.msgLen ≠ 0) := by
  unfold msgStartCheck
  grind

theorem lastBlock_eq_true {s : State} : lastBlock s = true ↔ s.msgRemain = 1 := by simp [lastBlock]

/-- The last block ends the message (R236, R238). -/
theorem countBlock_last {s : State} (h : s.msgRemain = 1) : countBlock s = endMessage s := by
  simp [countBlock, h, endMessage]

/-- Any other block leaves the message active with one block fewer (R236). -/
theorem countBlock_more {s : State} (h : s.msgRemain ≠ 1) :
    countBlock s = { s with msgRemain := s.msgRemain - 1 } := by
  have h' : s.msgRemain - 1 ≠ 0 := by
    intro e
    exact h (by simpa using BitVec.sub_eq_iff_eq_add.mp e)
  unfold countBlock
  simp only []
  rw [if_neg h']

theorem setChain_eq (c : Block) (s : State) :
    setChain c s = { s with chain := if s.msgMode = .cbc then c else s.chain } := by
  unfold setChain; split <;> rename_i h <;> simp only [h, reduceCtorEq, if_true, if_false]
  rw [← h]

theorem chainXor_eq (s : State) (x : Block) :
    chainXor s x = if s.msgMode = .cbc then xorBlock x s.chain else x := by
  unfold chainXor; split <;> rename_i h <;> simp [h]

/-- All the fields that a MSG_START whose checks pass writes (R235). -/
theorem beginMessage_eq (dir : Dir) (mode : Mode) (s : State) :
    beginMessage dir mode s =
      { s with
        msgActive := true, msgDir := dir, msgMode := mode,
        chain := if mode = .cbc then s.iv else zeroBlock,
        iv := if mode = .cbc then zeroBlock else s.iv,
        ivWr := if mode = .cbc then 0 else s.ivWr,
        msgRemain := if dir = .enc then BitVec.ofNat 29 (s.msgLen.toNat / 16 + 1) else BitVec.ofNat 29 (s.msgLen.toNat / 16),
        msgTail := if dir = .enc then BitVec.ofNat 4 (s.msgLen.toNat % 16) else 0,
        dout := zeroBlock, doutBytes := 0 } := by
  cases dir <;> cases mode <;> rfl

end Sys2Proof.Machine
end

