-- ==== Sys2Proof/Laws/Operands.lean ====
section
/-! SUPPORT. Packing and unpacking of words, and reading the results of the block builders byte by byte. -/

namespace Sys2Proof.Machine

@[simp] theorem wordByte_packWord_zero (b0 b1 b2 b3 : Byte) : wordByte (packWord b0 b1 b2 b3) 0 = b0 := by
  ext i hi; simp [wordByte, packWord]; grind

@[simp] theorem wordByte_packWord_one (b0 b1 b2 b3 : Byte) : wordByte (packWord b0 b1 b2 b3) 1 = b1 := by
  ext i hi; simp [wordByte, packWord]; grind

@[simp] theorem wordByte_packWord_two (b0 b1 b2 b3 : Byte) : wordByte (packWord b0 b1 b2 b3) 2 = b2 := by
  ext i hi; simp [wordByte, packWord]; grind

@[simp] theorem wordByte_packWord_three (b0 b1 b2 b3 : Byte) : wordByte (packWord b0 b1 b2 b3) 3 = b3 := by
  ext i hi; simp [wordByte, packWord]; grind

/-- A word is the packing of its four bytes. -/
@[simp] theorem packWord_wordByte (v : Word) :
    packWord (wordByte v 0) (wordByte v 1) (wordByte v 2) (wordByte v 3) = v := by
  ext i hi
  simp [wordByte, packWord]; grind

/-- A write to word `j` sets the bytes 4j..4j+3 and keeps the others. -/
theorem getElem_setRegWord {n : Nat} (x : Vector Byte n) (j : Nat) (v : Word) (k : Nat) (hk : k < n) :
    (setRegWord x j v)[k] = if k / 4 = j then wordByte v (k % 4) else x[k] := by
  simp [setRegWord]

@[simp] theorem getElem_ofEntries (f : Nat → Nat → Byte) (k : Nat) (hk : k < 16) :
    (ofEntries f)[k] = f (k % 4) (k / 4) := by
  simp [ofEntries]

/-- The entries of a block built from its entries. -/
theorem entry_ofEntries (f : Nat → Nat → Byte) (r c : Nat) : entry (ofEntries f) r c = f (r % 4) (c % 4) := by
  have h1 : (r % 4 + 4 * (c % 4)) % 4 = r % 4 := by omega
  have h2 : (r % 4 + 4 * (c % 4)) / 4 = c % 4 := by omega
  simp [entry, ofEntries, h1, h2]

/-- Byte `k` of a block is its entry in row `k % 4`, column `k / 4`. -/
theorem entry_of_index (b : Block) (k : Nat) (hk : k < 16) : entry b (k % 4) (k / 4) = b[k] := by
  have h : k % 4 % 4 + 4 * (k / 4 % 4) = k := by omega
  simp only [entry, h]

/-- Two blocks with the same sixteen entries are equal. -/
theorem block_ext_entries {x y : Block} (h : ∀ r < 4, ∀ c < 4, entry x r c = entry y r c) : x = y := by
  apply Vector.ext
  intro k hk
  rw [← entry_of_index x k hk, ← entry_of_index y k hk]
  exact h _ (by omega) _ (by omega)

@[simp] theorem entry_mod_row (b : Block) (r c : Nat) : entry b (r % 4) c = entry b r c := by simp [entry]

@[simp] theorem entry_mod_col (b : Block) (r c : Nat) : entry b r (c % 4) = entry b r c := by simp [entry]

@[simp] theorem getElem_xorBlock (x y : Block) (k : Nat) (hk : k < 16) : (xorBlock x y)[k] = x[k] ^^^ y[k] := by
  simp [xorBlock]

@[simp] theorem getElem_zeroBlock (k : Nat) (hk : k < 16) : zeroBlock[k] = 0#8 := by simp [zeroBlock]

/-- Reading word `j` after a write to it gives the value written. -/
theorem regWord_setRegWord_same {n : Nat} (x : Vector Byte n) (j : Nat) (v : Word) (h : 4 * j + 3 < n) :
    regWord (setRegWord x j v) j = v := by
  have get (i : Nat) (hi : i < 4) : (setRegWord x j v).getD (4 * j + i) 0 = wordByte v i := by
    have hlt : 4 * j + i < n := by omega
    have h1 : (4 * j + i) / 4 = j := by omega
    have h2 : (4 * j + i) % 4 = i := by omega
    simp [Vector.getD, hlt, getElem_setRegWord, h1, h2]
  have g0 := get 0 (by omega)
  simp only [Nat.add_zero] at g0
  simp only [regWord, g0, get 1 (by omega), get 2 (by omega), get 3 (by omega), packWord_wordByte]

/-- A write to one word leaves the others. -/
theorem regWord_setRegWord_other {n : Nat} (x : Vector Byte n) (j i : Nat) (v : Word) (h : i ≠ j) :
    regWord (setRegWord x j v) i = regWord x i := by
  have get (m : Nat) (hm : m < 4) : (setRegWord x j v).getD (4 * i + m) 0 = x.getD (4 * i + m) 0 := by
    by_cases hlt : 4 * i + m < n
    · have h1 : (4 * i + m) / 4 ≠ j := by omega
      simp [Vector.getD, hlt, getElem_setRegWord, h1]
    · simp [Vector.getD, hlt]
  have g0 := get 0 (by omega)
  simp only [Nat.add_zero] at g0
  simp only [regWord, g0, get 1 (by omega), get 2 (by omega), get 3 (by omega)]

end Sys2Proof.Machine
end

