-- ==== Sys2Proof/Laws/PerInstr.lean ====
section
/-! SUPPORT. Per instruction: a well-formed command's word is in its row of the opcode table (30_encoding.md R84). -/

namespace Sys2Proof.Laws.EncodeRow

/-- Some row with the command's mnemonic admits the command's word. -/
def Statement (i : Instr) : Prop :=
  i.wf = true → ∃ r ∈ opcodeTable, r.mnemonic = i.mnemonic ∧ r.admits (encode i) = true

/-- A row's mask, applied to a word of fields, for the two shapes of row that fix no or one operand byte. -/
theorem mask_one (opc a : Byte) : commandWord opc a 0 &&& 0xFFFF00FF#32 = commandWord opc 0 0 := by
  ext i hi; interval_cases i <;> simp [commandWord] <;> grind

theorem mask_two (opc a b : Byte) : commandWord opc a b &&& 0xFF0000FF#32 = commandWord opc 0 0 := by
  ext i hi; interval_cases i <;> simp [commandWord] <;> grind

theorem nop : Statement .nop := fun _ => ⟨⟨"NOP", 0x00, 0xFFFFFFFF⟩, by decide +kernel⟩
theorem clrErr : Statement .clrErr := fun _ => ⟨⟨"CLR_ERR", 0x01, 0xFFFFFFFF⟩, by decide +kernel⟩
theorem gfMul (a b : Byte) : Statement (.gfMul a b) := fun _ =>
  ⟨⟨"GF_MUL", 0x08, 0xFF0000FF⟩, by decide +kernel, rfl, decide_eq_true ((mask_two ..).trans rfl)⟩
theorem sbox (x : Byte) : Statement (.sbox x) := fun _ =>
  ⟨⟨"SBOX", 0x09, 0xFFFF00FF⟩, by decide +kernel, rfl, decide_eq_true ((mask_one ..).trans rfl)⟩
theorem invSbox (y : Byte) : Statement (.invSbox y) := fun _ =>
  ⟨⟨"INV_SBOX", 0x0A, 0xFFFF00FF⟩, by decide +kernel, rfl, decide_eq_true ((mask_one ..).trans rfl)⟩
theorem keyExpand (len : Byte) : Statement (.keyExpand len) := fun _ =>
  ⟨⟨"KEY_EXPAND", 0x10, 0xFFFF00FF⟩, by decide +kernel, rfl, decide_eq_true ((mask_one ..).trans rfl)⟩
theorem subBytes : Statement .subBytes := fun _ => ⟨⟨"SUB_BYTES", 0x20, 0xFFFFFFFF⟩, by decide +kernel⟩
theorem invSubBytes : Statement .invSubBytes := fun _ => ⟨⟨"INV_SUB_BYTES", 0x21, 0xFFFFFFFF⟩, by decide +kernel⟩
theorem shiftRows : Statement .shiftRows := fun _ => ⟨⟨"SHIFT_ROWS", 0x22, 0xFFFFFFFF⟩, by decide +kernel⟩
theorem invShiftRows : Statement .invShiftRows := fun _ => ⟨⟨"INV_SHIFT_ROWS", 0x23, 0xFFFFFFFF⟩, by decide +kernel⟩
theorem mixColumns : Statement .mixColumns := fun _ => ⟨⟨"MIX_COLUMNS", 0x24, 0xFFFFFFFF⟩, by decide +kernel⟩
theorem invMixColumns : Statement .invMixColumns := fun _ => ⟨⟨"INV_MIX_COLUMNS", 0x25, 0xFFFFFFFF⟩, by decide +kernel⟩
theorem addRoundKey (n : Byte) : Statement (.addRoundKey n) := fun _ =>
  ⟨⟨"ADD_ROUND_KEY", 0x26, 0xFFFF00FF⟩, by decide +kernel, rfl, decide_eq_true ((mask_one ..).trans rfl)⟩
theorem encBlock : Statement .encBlock := fun _ => ⟨⟨"ENC_BLOCK", 0x30, 0xFFFFFFFF⟩, by decide +kernel⟩
theorem decBlock : Statement .decBlock := fun _ => ⟨⟨"DEC_BLOCK", 0x31, 0xFFFFFFFF⟩, by decide +kernel⟩
theorem padAdd (n : Byte) : Statement (.padAdd n) := fun _ =>
  ⟨⟨"PAD_ADD", 0x40, 0xFFFF00FF⟩, by decide +kernel, rfl, decide_eq_true ((mask_one ..).trans rfl)⟩
theorem padCheck : Statement .padCheck := fun _ => ⟨⟨"PAD_CHECK", 0x41, 0xFFFFFFFF⟩, by decide +kernel⟩
theorem msgStart (a : Byte) : Statement (.msgStart a) := by
  have key : ∀ a : Byte, a.extractLsb' 2 6 = 0#6 → commandWord 0x50 a 0 &&& 0xFFFFFCFF#32 = 0x50#32 := by
    decide +kernel
  intro h
  refine ⟨⟨"MSG_START", 0x50, 0xFFFFFCFF⟩, by decide +kernel, rfl, ?_⟩
  simp only [Instr.wf, decide_eq_true_eq] at h
  refine decide_eq_true ?_
  exact key a h
theorem msgBlock : Statement .msgBlock := fun _ => ⟨⟨"MSG_BLOCK", 0x51, 0xFFFFFFFF⟩, by decide +kernel⟩
theorem msgAbort : Statement .msgAbort := fun _ => ⟨⟨"MSG_ABORT", 0x52, 0xFFFFFFFF⟩, by decide +kernel⟩

end Sys2Proof.Laws.EncodeRow
end

