-- ==== Sys2Proof/Tests/Slice0.lean ====
section
/-! SUPPORT. Tests with expected results from the spec (95_test_vectors.md and the examples of the rules), and for
every statement with hypotheses a state and operands that meet them. -/

namespace Sys2Proof.Tests

open Sys2Proof Sys2Proof.Machine

set_option Elab.async false

/-! ### Decoding: words written out from 30_encoding.md R84 -/

theorem test_word_nop : decode 0x00000000 = .ok .nop := by decide
theorem test_word_clrErr : decode 0x00000001 = .ok .clrErr := by decide
theorem test_word_gfMul : decode 0b00000000_10000011_01010111_00001000 = .ok (.gfMul 0x57 0x83) := by decide
theorem test_word_sbox : decode 0b00000000_00000000_01010011_00001001 = .ok (.sbox 0x53) := by decide
theorem test_word_invSbox : decode 0x0000ED0A = .ok (.invSbox 0xED) := by decide
theorem test_word_keyExpand : decode 0b00000000_00000000_00010000_00010000 = .ok (.keyExpand 16) := by decide
theorem test_word_subBytes : decode 0x00000020 = .ok .subBytes := by decide
theorem test_word_invSubBytes : decode 0x00000021 = .ok .invSubBytes := by decide
theorem test_word_shiftRows : decode 0x00000022 = .ok .shiftRows := by decide
theorem test_word_invShiftRows : decode 0x00000023 = .ok .invShiftRows := by decide
theorem test_word_mixColumns : decode 0x00000024 = .ok .mixColumns := by decide
theorem test_word_invMixColumns : decode 0x00000025 = .ok .invMixColumns := by decide
theorem test_word_addRoundKey : decode 0b00000000_00000000_00001010_00100110 = .ok (.addRoundKey 10) := by decide
theorem test_word_encBlock : decode 0b00000000_00000000_00000000_00110000 = .ok .encBlock := by decide
theorem test_word_decBlock : decode 0x00000031 = .ok .decBlock := by decide
theorem test_word_padAdd : decode 0b00000000_00000000_00000101_01000000 = .ok (.padAdd 5) := by decide
theorem test_word_padCheck : decode 0x00000041 = .ok .padCheck := by decide
theorem test_word_msgStart : decode 0b00000000_00000000_00000011_01010000 = .ok (.msgStart 3) := by decide
theorem test_word_msgBlock : decode 0x00000051 = .ok .msgBlock := by decide
theorem test_word_msgAbort : decode 0x00000052 = .ok .msgAbort := by decide

/-- V-CT-2 to V-CT-6 of 95_test_vectors.md: each illegal word, rejected by name. -/
theorem test_illegal_words :
    decode 0x00000100 = .error .unusedANonzero ∧ decode 0x00000002 = .error .unassignedOpcode ∧
      decode 0x01000009 = .error .reservedNonzero ∧ decode 0x00010009 = .error .unusedBNonzero ∧
      decode 0x00000450 = .error .msgStartReservedNonzero := by decide

/-- The one check of WellFormed refuses a MSG_START with A[2] = 1, and takes the largest legal operand. -/
theorem test_wellFormed_msgStart : Instr.wf (.msgStart 0x04) = false ∧ Instr.wf (.msgStart 0x03) = true := by decide

/-- 30_encoding.md R87's examples, in hex of either case and in decimal. -/
theorem test_assemble :
    assemble "GF_MUL 0x57, 0x83" = some 0x00835708 ∧ assemble "SBOX 0xeD" = some 0x0000ED09 ∧
      assemble "KEY_EXPAND 16" = some 0x00001010 ∧ assemble "SBOX 0xG0" = none := by decide +kernel

theorem test_decodeTableWord : decodeTableWord 32 0x00835708 = some (.gfMul 0x57 0x83) ∧ decodeTableWord 32 0x02 = none := by
  decide

/-! ### One step -/

/-- The state of a next outcome. -/
def after (o : Result) : State :=
  match o with
  | .next s => s
  | .fault _ | .refused _ => State.reset

/-- The reset state with a working block. -/
def withBlock (v : BitVec 128) : State := { State.reset with state := hexBlock v }

/-- A state with the FIPS-197 A.1 key's schedule held and a working block. -/
def keyed (v : BitVec 128) : State :=
  { State.reset with
    keyValid := true, nr := .ten, rkw := scheduleOfKey .ten (hexBlock 0x2b7e151628aed2a6abf7158809cf4f3c).toList,
    state := hexBlock v }

/-- A state in which the next step completes the word `w`. -/
def pendingWord (w : Word) : State := { State.reset with busy := true, pending := w, inputs := [.complete] }

/-- The step after placing V-GF-1's word runs it (10_state.md R25, 40_control.md R100). -/
theorem test_step_runs_placed_word :
    (after (step (State.reset.withFetchWord 32 0x00835708))).result = 0xC1 ∧
      (after (step (State.reset.withFetchWord 32 0x00835708))).busy = false := by decide +kernel

/-- V-CT-7: the gate discards SBOX and keeps ERR = 5. -/
theorem test_gate_discards :
    (after (coreComplete { pendingWord 0x00005309 with err := .noKey })).result = 0 ∧
      (after (coreComplete { pendingWord 0x00005309 with err := .noKey })).err = .noKey := by decide +kernel

/-- V-CT-8. -/
theorem test_clrErr : (after (coreComplete { pendingWord 0x00000001 with err := .noKey, ovr := true })).err = .none := by
  decide +kernel

/-- V-CT-11: the write while busy is dropped and sets OVR. -/
theorem test_write_while_busy :
    (busWrite 0x060 32 0xDEADBEEF (pendingWord 0x00005309)).ovr = true ∧
      (busWrite 0x060 32 0xDEADBEEF (pendingWord 0x00005309)).state = zeroBlock := by decide +kernel

/-- V-BUS-1 and V-BUS-5 to V-BUS-9. -/
theorem test_bus_reads :
    busRead 0x000 32 State.reset = .data 0x41455331 ∧ busRead 0x090 32 State.reset = .busError ∧
      busRead 0x1F0 32 State.reset = .busError ∧ busRead 0xFFC 32 State.reset = .busError ∧
      busRead 0x062 32 State.reset = .busError ∧ busRead 0x060 8 State.reset = .busError := by decide +kernel

/-- 60_exceptions.md R271 and 10_state.md R22: SEQUENCE is code 8, in STATUS[11:8]. -/
theorem test_status_code : busRead 0x004 32 (after (exec .msgBlock State.reset)) = .data 0x00000800 := by decide +kernel

/-- V-BUS-12 and V-BUS-13. -/
theorem test_bus_writes :
    busRead 0x004 32 (busWrite 0x044 32 0x11223344 State.reset) = .data 0x02000000 ∧
      (busWrite 0x064 32 0xA1B2C3D4 State.reset).state = hexBlock 0x00000000A1B2C3D40000000000000000 := by decide +kernel

/-- V-GF-10. -/
theorem test_gfMul : (after (exec (.gfMul 0x0E 0x0B) State.reset)).result = 0x62 := by decide +kernel
/-- V-GF-7. -/
theorem test_gfMul_reduces : (after (exec (.gfMul 0x02 0x87) State.reset)).result = 0x15 := by decide +kernel
/-- V-SB-3. -/
theorem test_sbox : (after (exec (.sbox 0x10) State.reset)).result = 0xCA := by decide +kernel
/-- V-SB-10. -/
theorem test_invSbox : (after (exec (.invSbox 0xFF) State.reset)).result = 0x7D := by decide +kernel

/-- V-KS-1 (FIPS-197 A.1): the first derived word, the last one, and the zero fill after it. -/
theorem test_keyExpand :
    let s := after (exec (.keyExpand 16) { State.reset with
      key := Vector.ofFn fun k => (0x2b7e151628aed2a6abf7158809cf4f3cFFFFFFFFFFFFFFFFFFFFFFFFFFFFFFFF#256).extractLsb' (248 - 8 * k.val) 8 })
    [s.rkw.getD 4 0, s.rkw.getD 43 0, s.rkw.getD 44 0] = [0xA0FAFE17, 0xB6630CA6, 0] ∧ s.nr = .ten := by decide +kernel

/-- V-KS-6: a length of 17 drops the schedule. -/
theorem test_keyExpand_bad_length :
    (after (exec (.keyExpand 17) (keyed 0))).err = .invalidKeyLength ∧
      (after (exec (.keyExpand 17) (keyed 0))).keyValid = false := by decide +kernel

/-- V-RT-1. -/
theorem test_subBytes :
    (after (exec .subBytes (withBlock 0x193de3bea0f4e22b9ac68d2ae9f84808))).state =
      hexBlock 0xd42711aee0bf98f1b8b45de51e415230 := by decide +kernel
/-- V-RT-2. -/
theorem test_invSubBytes :
    (after (exec .invSubBytes (withBlock 0xd42711aee0bf98f1b8b45de51e415230))).state =
      hexBlock 0x193de3bea0f4e22b9ac68d2ae9f84808 := by decide +kernel
/-- V-RT-3. -/
theorem test_shiftRows :
    (after (exec .shiftRows (withBlock 0xd42711aee0bf98f1b8b45de51e415230))).state =
      hexBlock 0xd4bf5d30e0b452aeb84111f11e2798e5 := by decide +kernel
/-- V-RT-8. -/
theorem test_invShiftRows :
    (after (exec .invShiftRows (withBlock 0x000102030405060708090a0b0c0d0e0f))).state =
      hexBlock 0x000d0a0704010e0b0805020f0c090603 := by decide +kernel
/-- V-RT-12. -/
theorem test_mixColumns :
    (after (exec .mixColumns (withBlock 0xd4d4d4d52d26314c0000000000000000))).state =
      hexBlock 0xd5d5d7d64d7ebdf80000000000000000 := by decide +kernel
/-- V-RT-6. -/
theorem test_invMixColumns :
    (after (exec .invMixColumns (withBlock 0x046681e5e0cb199a48f8d37a2806264c))).state =
      hexBlock 0xd4bf5d30e0b452aeb84111f11e2798e5 := by decide +kernel
/-- V-RT-15. -/
theorem test_addRoundKey :
    (after (exec (.addRoundKey 1) (keyed 0x046681e5e0cb199a48f8d37a2806264c))).state =
      hexBlock 0xa49c7ff2689f352b6b5bea43026a5049 := by decide +kernel
/-- V-RT-17. -/
theorem test_addRoundKey_refused : (after (exec (.addRoundKey 11) (keyed 0))).err = .badOperand := by decide +kernel

/-- V-BC-10's block (FIPS-197 B). -/
theorem test_encBlock :
    (after (exec .encBlock (keyed 0x3243f6a8885a308d313198a2e0370734))).state =
      hexBlock 0x3925841d02dc09fbdc118597196a0b32 := by decide +kernel
/-- V-BC-6. -/
theorem test_decBlock :
    (after (exec .decBlock (keyed 0x3925841d02dc09fbdc118597196a0b32))).state =
      hexBlock 0x3243f6a8885a308d313198a2e0370734 := by decide +kernel

/-- V-PD-3. -/
theorem test_padAdd :
    (after (exec (.padAdd 5) (withBlock 0x61626364656667686970717273747576))).state =
      hexBlock 0x61626364650b0b0b0b0b0b0b0b0b0b0b := by decide +kernel
/-- V-PD-6. -/
theorem test_padCheck :
    (after (exec .padCheck (withBlock 0x610f0f0f0f0f0f0f0f0f0f0f0f0f0f0f))).result = 1 := by decide +kernel
/-- 45_padding.md R216: p = 2 needs both last bytes 02. -/
theorem test_padCheck_invalid :
    (after (exec .padCheck (withBlock 0x61626364656667686970717273030302))).err = .invalidPadding := by decide +kernel

/-- 46_modes.md R235's example: the message of 20 bytes. -/
theorem test_msgStart :
    let s := after (exec (.msgStart 2) { keyed 0 with iv := hexBlock 0x000102030405060708090a0b0c0d0e0f, ivWr := 0b1111, msgLen := 20 })
    s.msgActive = true ∧ s.msgRemain = 2 ∧ s.msgTail = 4 ∧ s.ivWr = 0 ∧ s.iv = zeroBlock ∧
      s.chain = hexBlock 0x000102030405060708090a0b0c0d0e0f := by decide +kernel

/-- A message in progress under the FIPS-197 A.1 key. -/
def midMessage (d : Dir) (m : Mode) (remain : BitVec 29) (tail : BitVec 4) : State :=
  { keyed 0 with msgActive := true, msgDir := d, msgMode := m, msgRemain := remain, msgTail := tail }

/-- 46_modes.md R236's example, the first block of program P3. -/
theorem test_msgBlock :
    let s := after (exec .msgBlock { midMessage .enc .cbc 2 4 with
      chain := hexBlock 0x000102030405060708090a0b0c0d0e0f, din := hexBlock 0x68656c6c6f2c20686172647761726520 })
    s.dout = hexBlock 0xde6e368ffb86572c2abbcce5cf0e5863 ∧ s.msgRemain = 1 := by decide +kernel

/-- 46_modes.md R239's example. -/
theorem test_msgAbort :
    let s := after (exec .msgAbort { midMessage .dec .cbc 3 0 with doutBytes := 16, chain := hexBlock 5 })
    s.msgActive = false ∧ s.msgRemain = 0 ∧ s.chain = zeroBlock ∧ s.doutBytes = 0 := by decide +kernel

/-! ### Witnesses: for each statement with hypotheses, states and operands that meet them -/

/-- An idle core whose next event is `e`. -/
def asked (e : Event) : State := { State.reset with inputs := [e] }

theorem witness_reset_pending : ∃ rest, ({ pendingWord 0x00000030 with inputs := [.reset, .complete] } : State).inputs = .reset :: rest :=
  ⟨_, rfl⟩

theorem witness_step_runs :
    CompletionIsNext (pendingWord 0x00000030) [] ∧ gateClosed (pendingWord 0x00000030) = false ∧
      decode (pendingWord 0x00000030).pending = .ok .encBlock := ⟨⟨rfl, .inl rfl⟩, rfl, by decide⟩
theorem witness_step_runs_unprompted :
    CompletionIsNext { pendingWord 0x00000051 with inputs := [] } [] ∧
      decode ({ pendingWord 0x00000051 with inputs := [] } : State).pending = .ok .msgBlock :=
  ⟨⟨rfl, .inr ⟨rfl, rfl⟩⟩, by decide⟩
theorem witness_step_illegal :
    CompletionIsNext (pendingWord 0xFFFFFFFF) [] ∧ gateClosed (pendingWord 0xFFFFFFFF) = false ∧
      ∀ i, decode (pendingWord 0xFFFFFFFF).pending ≠ .ok i := by
  refine ⟨⟨rfl, .inl rfl⟩, rfl, ?_⟩
  rw [show decode (pendingWord 0xFFFFFFFF).pending = .error .reservedNonzero by decide]; simp
theorem witness_step_gate_clrErr :
    CompletionIsNext { pendingWord 1 with ovr := true } [] ∧ gateClosed { pendingWord 1 with ovr := true } = true ∧
      decode ({ pendingWord 1 with ovr := true } : State).pending = .ok .clrErr := ⟨⟨rfl, .inl rfl⟩, rfl, by decide⟩
theorem witness_step_gate_discards :
    CompletionIsNext { pendingWord 9 with err := .sequence } [] ∧
      gateClosed { pendingWord 9 with err := .sequence } = true ∧
      decode ({ pendingWord 9 with err := .sequence } : State).pending ≠ .ok .clrErr :=
  ⟨⟨rfl, .inl rfl⟩, rfl, by decide⟩
theorem witness_step_not_enabled : (asked .complete).inputs = .complete :: [] ∧ (asked .complete).busy = false := ⟨rfl, rfl⟩

theorem witness_gate_any_word :
    CompletionIsNext { pendingWord 0x101 with err := .invalidKeyLength } [] ∧
      ({ pendingWord 0x101 with err := .invalidKeyLength } : State).err ≠ .none := ⟨⟨rfl, .inl rfl⟩, by decide⟩
theorem witness_gate_step :
    ({ pendingWord 0x30 with ovr := true } : State).ovr = true ∧ ∃ t, step { pendingWord 0x30 with ovr := true } = .next t :=
  ⟨rfl, _, rfl⟩
theorem witness_gate_write :
    ({ asked (.write (Reg.offset (.din 3)) 32 7) with err := .noKey } : State).inputs = .write (Reg.offset (.din 3)) 32 7 :: [] ∧
      ({ asked (.write (Reg.offset (.din 3)) 32 7) with err := .noKey } : State).busy = false := ⟨rfl, rfl⟩
theorem witness_gate_read : (asked (.read (Reg.offset (.rkw 59)) 32)).inputs = .read (Reg.offset (.rkw 59)) 32 :: [] := rfl

/-- The first and the last opcode of each range of R85, and one word of each other kind. -/
theorem witness_illegal_words :
    ∀ w ∈ ([0x02, 0x07, 0x0B, 0x0F, 0x11, 0x1F, 0x27, 0x2F, 0x32, 0x3F, 0x42, 0x4F, 0x53, 0xFF] ++
      [0x01000008, 0x80000000, 0x00010009, 0x00010000, 0x00000100, 0x00008052, 0x00000450, 0x00008050] : List Word),
      IllegalWord w := by
  unfold IllegalWord
  simp only [List.cons_append, List.nil_append, List.forall_mem_cons, List.not_mem_nil, false_implies, implies_true, and_true]
  repeat' apply And.intro
  all_goals decide +kernel
theorem witness_illegal_states :
    gateClosed State.reset = false ∧ gateClosed { State.reset with ovr := true } = true ∧ State.reset.busy = false :=
  ⟨rfl, rfl, rfl⟩

theorem witness_decode_table : decode 0x00000350 = .ok (.msgStart 3) ∧
    (⟨"MSG_START", 0x00000050, 0xFFFFFCFF⟩ : OpcodeRow) ∈ opcodeTable := ⟨by decide, by decide +kernel⟩
theorem witness_decode_reads_back : (Instr.msgStart 3).wf = true ∧ (Instr.gfMul 0xFF 0xFF).wf = true := by decide
theorem witness_encode_writes_back : decode 0x00FFFF08 = .ok (.gfMul 0xFF 0xFF) := by decide
theorem witness_assembler : decode 0x0000FF40 = .ok (.padAdd 0xFF) ∧ ∀ i, decode 0x00000450 ≠ .ok i :=
  ⟨by decide, by rw [show decode 0x00000450 = .error .msgStartReservedNonzero by decide]; simp⟩

/-- The hypotheses of `IllegalUnless` for the commands with no operand: A, B and RSV nonzero. -/
theorem witness_malformed_plain :
    ∀ opc ∈ ([0x00, 0x01, 0x20, 0x21, 0x22, 0x23, 0x24, 0x25, 0x30, 0x31, 0x41, 0x51, 0x52] : List Byte),
      ∀ w ∈ [fieldWord opc 1 0, fieldWord opc 0 0x80, fieldWord opc 0 0 ||| 0x01000000],
        opcField w = opc ∧ ¬ PlainWord opc w := by
  unfold PlainWord
  simp only [List.forall_mem_cons, List.not_mem_nil, false_implies, implies_true, and_true]
  repeat' apply And.intro
  all_goals decide +kernel
/-- The same for the commands with the operand A alone: B and RSV nonzero. -/
theorem witness_malformed_oneByte :
    ∀ opc ∈ ([0x09, 0x0A, 0x10, 0x26, 0x40] : List Byte),
      ∀ w ∈ [fieldWord opc 0 1, fieldWord opc 0xFF 0 ||| 0x80000000],
        opcField w = opc ∧ ¬ OneByteWord opc w := by
  unfold OneByteWord
  simp only [List.forall_mem_cons, List.not_mem_nil, false_implies, implies_true, and_true]
  repeat' apply And.intro
  all_goals decide +kernel
theorem witness_malformed_gfMul :
    opcField 0x01000008 = 0x08 ∧ ¬ ∃ a b : Byte, (0x01000008 : Word) = fieldWord 0x08 a b := by
  refine ⟨by decide, ?_⟩
  rintro ⟨a, b, h⟩
  have h24 := congrArg (fun w : Word => w.getLsbD 24) h
  simp [fieldWord] at h24
theorem witness_malformed_msgStart :
    opcField 0x00000450 = 0x50 ∧ ¬ ∃ (d : Dir) (m : Mode), (0x00000450 : Word) = fieldWord 0x50 (msgStartOperand d m) 0 := by
  refine ⟨by decide, ?_⟩
  rintro ⟨d, m, h⟩
  cases d <;> cases m <;> revert h <;> decide

theorem witness_nop_example : State.reset.busy = false ∧ State.reset.err = .none := ⟨rfl, rfl⟩
theorem witness_clrErr_malformed_closed :
    opcField 0x00000101 = 0x01 ∧ (0x00000101 : Word) ≠ 0x00000001 ∧ gateClosed { State.reset with err := .noKey } = true := by
  decide
theorem witness_clrErr_nothing_to_clear : State.reset.err = .none ∧ State.reset.ovr = false := ⟨rfl, rfl⟩
theorem witness_clrErr_reopens :
    gateClosed { pendingWord 1 with err := .sequence, ovr := true } = true ∧
      ∃ t, step { pendingWord 1 with err := .sequence, ovr := true } = .next t ∧ gateClosed t = false := ⟨rfl, _, rfl, rfl⟩
theorem witness_invSbox_undoes_sbox :
    ∃ t, exec (.sbox 0xFF) State.reset = .next t ∧ ∃ u, exec (.invSbox t.result) t = .next u := ⟨_, rfl, _, rfl⟩

theorem witness_field_inverse : (0xFF : Byte) ≠ 0 ∧ gmul 0x53 0xCA = 1 := by decide +kernel
theorem witness_affine_index : 7 < 8 := by decide

theorem witness_keyExpand_message_active : (midMessage .enc .ecb 1 15).msgActive = true := rfl
theorem witness_keyExpand_bad_length :
    State.reset.msgActive = false ∧ ∀ len ∈ ([0, 15, 17, 23, 25, 31, 33, 255] : List Byte), ¬ KeyLength len.toNat := by
  refine ⟨rfl, ?_⟩; unfold KeyLength; decide
theorem witness_keyExpand_good_length :
    State.reset.msgActive = false ∧ ∀ len ∈ ([16, 24, 32] : List Byte), KeyLength len.toNat := by
  refine ⟨rfl, ?_⟩; unfold KeyLength; decide
/-- KEY with the FIPS-197 A.1 key in its first 16 bytes and ones above. -/
def keyFilled : State :=
  { State.reset with key := Vector.ofFn fun k => (hexBlock 0x2b7e151628aed2a6abf7158809cf4f3c).getD k.val 0xFF }
theorem witness_keyExpand_example :
    keyFilled.msgActive = false ∧
      ∀ k : Fin 16, keyFilled.key.getD k.val 0 = (hexBlock 0x2b7e151628aed2a6abf7158809cf4f3c).get k := by decide +kernel
theorem witness_schedule_key_alone :
    (∀ i < (16 : Byte).toNat, keyFilled.key.getD i 0 = ({ keyFilled with key := keyFilled.key.set 16 0 } : State).key.getD i 0) ∧
      keyFilled.key ≠ keyFilled.key.set 16 0 ∧ (∃ t, exec (.keyExpand 16) keyFilled = .next t) ∧
      (∃ v, exec (.keyExpand 16) { keyFilled with key := keyFilled.key.set 16 0 } = .next v) :=
  ⟨by decide +kernel, by decide +kernel, ⟨_, rfl⟩, ⟨_, rfl⟩⟩

theorem witness_equal_columns :
    ∀ r < 4, ∀ c < 4, entry (hexBlock 0x01020304010203040102030401020304) r c = entry (hexBlock 0x01020304010203040102030401020304) r 0 := by
  decide +kernel
theorem witness_equal_bytes_column : 3 < 4 ∧ ∀ r < 4, entry (hexBlock 0x000000000000000000000000FFFFFFFF) r 3 = 0xFF := by
  decide +kernel
theorem witness_addRoundKey_no_key : State.reset.keyValid = false := rfl
theorem witness_addRoundKey_bounds :
    (keyed 0).keyValid = true ∧ ((11 : Byte).toNat > (keyed 0).nr.count) ∧ ((10 : Byte).toNat ≤ (keyed 0).nr.count) ∧
      ((0 : Byte).toNat ≤ (keyed 0).nr.count) := ⟨rfl, by decide, by decide, by decide⟩
theorem witness_addRoundKey_example :
    (keyed 0x3243f6a8885a308d313198a2e0370734).state = hexBlock 0x3243f6a8885a308d313198a2e0370734 ∧
      (keyed 0).rkw.getD 0 0 = 0x2b7e1516 ∧ (keyed 0).rkw.getD 1 0 = 0x28aed2a6 ∧ (keyed 0).rkw.getD 2 0 = 0xabf71588 ∧
      (keyed 0).rkw.getD 3 0 = 0x09cf4f3c := ⟨rfl, by decide +kernel⟩

theorem witness_ciphers_rounds : 1 ≤ 1 ∧ 1 ≤ 14 := by decide
theorem witness_encBlock_no_key : State.reset.keyValid = false ∧ (keyed 0).keyValid = true := ⟨rfl, rfl⟩
theorem witness_encBlock_examples :
    (∃ s : State, s.keyValid = true ∧ s.nr = .ten ∧ s.rkw = scheduleOfKey .ten (List.replicate 16 0) ∧ s.state = zeroBlock) ∧
      (∃ s : State, s.keyValid = true ∧ s.nr = .ten ∧
        s.rkw = scheduleOfKey .ten (hexBlock 0x000102030405060708090a0b0c0d0e0f).toList ∧
        s.state = hexBlock 0x00112233445566778899aabbccddeeff) :=
  ⟨⟨{ keyed 0 with rkw := _, state := _ }, rfl, rfl, rfl, rfl⟩, ⟨{ keyed 0 with rkw := _, state := _ }, rfl, rfl, rfl, rfl⟩⟩
theorem witness_decBlock_undoes :
    (keyed 5).keyValid = true ∧ (keyed 5).nr ≠ .none ∧ ∃ t, exec .encBlock (keyed 5) = .next t := ⟨rfl, by decide, _, rfl⟩
theorem witness_decBlock_example :
    ∃ s : State, s.keyValid = true ∧ s.nr = .fourteen ∧
      s.rkw = scheduleOfKey .fourteen ((hexBlock 0x000102030405060708090a0b0c0d0e0f).toList ++
        (hexBlock 0x101112131415161718191a1b1c1d1e1f).toList) ∧
      s.state = hexBlock 0x8ea2b7ca516745bfeafc49904b496089 :=
  ⟨{ keyed 0 with nr := _, rkw := _, state := _ }, rfl, rfl, rfl, rfl⟩
theorem witness_round_counts : (14 = 10 ∨ 14 = 12 ∨ 14 = 14) ∧ (10 = 10 ∨ 10 = 12 ∨ 10 = 14) := by decide

theorem witness_padAdd_bounds : (16 : Byte).toNat > 15 ∧ (255 : Byte).toNat > 15 ∧ (15 : Byte).toNat ≤ 15 ∧ (0 : Byte).toNat ≤ 15 := by
  decide
theorem witness_padAdd_example : (withBlock 0x61000000000000000000000000000000).state.get 0 = 0x61 := by decide +kernel
theorem witness_padCheck_one :
    1 ≤ 1 ∧ 1 ≤ 16 ∧ ∀ k : Fin 16, 16 - 1 ≤ k.val → ((withBlock 0x01).state.get k).toNat = 1 := by decide +kernel
theorem witness_padCheck_sixteen :
    16 ≤ 16 ∧ ∀ k : Fin 16, 16 - 16 ≤ k.val →
      ((withBlock 0x10101010101010101010101010101010).state.get k).toNat = 16 := by decide +kernel
theorem witness_padCheck_invalid :
    ∀ v ∈ ([0x00, 0x11, 0x0302] : List (BitVec 128)),
      ¬ ∃ p, 1 ≤ p ∧ p ≤ 16 ∧ ∀ k : Fin 16, 16 - p ≤ k.val → ((withBlock v).state.get k).toNat = p := by
  intro v hv
  rintro ⟨p, h1, h2, h⟩
  have h15 := h 15 (by change 16 - p ≤ 15; omega)
  have h14 := h 14
  simp only [List.mem_cons, List.not_mem_nil, or_false] at hv
  rcases hv with rfl | rfl | rfl
  · rw [show ((withBlock 0x00).state.get 15).toNat = 0 by decide +kernel] at h15; omega
  · rw [show ((withBlock 0x11).state.get 15).toNat = 17 by decide +kernel] at h15; omega
  · rw [show ((withBlock 0x0302).state.get 15).toNat = 2 by decide +kernel] at h15
    have := h14 (by change 16 - p ≤ 14; omega)
    rw [show ((withBlock 0x0302).state.get 14).toNat = 3 by decide +kernel] at this; omega
theorem witness_padCheck_corners :
    (hexBlock 0x01).get 15 = 0x01 ∧ (hexBlock 0x11).get 15 = 0x11 ∧ (hexBlock 0x0302).get 15 = 0x02 ∧
      (hexBlock 0x0302).get 14 = 0x03 ∧ (hexBlock 0x0202).get 14 = 0x02 := by decide +kernel
theorem witness_padding_prefix :
    (∀ k < ([1, 2, 3] : List Byte).length % 16, (hexBlock 0x010203FFFFFFFFFFFFFFFFFFFFFFFFFF).getD k 0 = ([1, 2, 3] : List Byte).getD (16 * (([1, 2, 3] : List Byte).length / 16) + k) 0) ∧
      1 ≤ 1 ∧ (List.replicate 16 (16 : Byte)).length = 16 * 1 := by decide +kernel
theorem witness_padding_aligned : ([] : List Byte).length % 16 = 0 ∧ (List.replicate 32 (0 : Byte)).length % 16 = 0 := by
  decide

theorem witness_msgStart_checks :
    (midMessage .enc .ecb 1 0).msgActive = true ∧ (State.reset.msgActive = false ∧ State.reset.keyValid = false) ∧
      (msgModeOf 2 = .cbc ∧ ({ keyed 0 with ivWr := 0b0111 } : State).ivWr ≠ 0b1111) ∧
      (msgDirOf 1 = .dec ∧ msgModeOf 1 ≠ .cbc ∧ ({ keyed 0 with msgLen := 15 } : State).msgLen.toNat % 16 ≠ 0) ∧
      (msgDirOf 3 = .dec ∧ ({ keyed 0 with ivWr := 0b1111 } : State).ivWr = 0b1111 ∧ (keyed 0).msgLen = 0) :=
  ⟨rfl, ⟨rfl, rfl⟩, ⟨by decide, by decide⟩, ⟨by decide, by decide, by decide⟩, ⟨by decide, rfl, rfl⟩⟩
theorem witness_msgStart_begins :
    (keyed 0).msgActive = false ∧ (keyed 0).keyValid = true ∧ (msgModeOf 0 = .cbc → (keyed 0).ivWr = 0b1111) ∧
      (msgDirOf 0 = .dec → (keyed 0).msgLen.toNat % 16 = 0 ∧ (keyed 0).msgLen ≠ 0) ∧
      (msgDirOf 3 = .dec → ({ keyed 0 with msgLen := 0xFFFFFFF0 } : State).msgLen.toNat % 16 = 0 ∧
        ({ keyed 0 with msgLen := 0xFFFFFFF0 } : State).msgLen ≠ 0) := by
  refine ⟨rfl, rfl, by decide, by decide, fun _ => ⟨by decide, by decide⟩⟩
theorem witness_msgStart_examples :
    ({ keyed 0 with msgLen := 0xFFFFFFFF } : State).msgLen = 0xFFFFFFFF ∧
      (({ keyed 0 with ivWr := 0b1111, msgLen := 20 } : State).ivWr = 0b1111 ∧
        ({ keyed 0 with ivWr := 0b1111, msgLen := 20 } : State).msgLen = 20) := ⟨rfl, rfl, rfl⟩
theorem witness_msgBlock_no_message : State.reset.msgActive = false := rfl
theorem witness_msgBlock_encrypt :
    (midMessage .enc .cbc 2 15).msgRemain ≠ 1 ∧ (midMessage .enc .cbc 1 15).msgRemain = 1 ∧
      (midMessage .enc .cbc 1 15).msgDir = .enc ∧ (midMessage .enc .cbc 1 15).msgActive = true := by
  refine ⟨by decide, rfl, rfl, rfl⟩
theorem witness_msgBlock_decrypt :
    (midMessage .dec .cbc 0x10000000 0).msgRemain ≠ 1 ∧ (midMessage .dec .ecb 1 0).msgRemain = 1 ∧
      (midMessage .dec .ecb 1 0).msgDir = .dec ∧ (midMessage .dec .ecb 1 0).msgActive = true := by
  refine ⟨by decide, rfl, rfl, rfl⟩
/-- V-MS-17 and V-MS-18: a last ciphertext block that passes the padding check, and one that fails it. -/
theorem witness_msgBlock_padding :
    let s := midMessage .dec .cbc 1 0
    let x := fun v => xorBlock (invCipher s.nr.count (roundKey s.rkw) (hexBlock v)) (hexBlock 0xde6e368ffb86572c2abbcce5cf0e5863)
    padCheck (x 0x88ed5c14d20c83c8135a1bd3c88a45d0) = some 4 ∧ padCheck (x 0x88ed5c14d20c83c8135a1bd3c88a45d1) = none := by
  decide +kernel
theorem witness_msgBlock_example :
    ∃ s : State, s.msgActive = true ∧ s.msgDir = .enc ∧ s.msgMode = .cbc ∧ s.msgRemain = 2 ∧ s.nr = .ten ∧
      s.rkw = scheduleOfKey .ten (hexBlock 0x2b7e151628aed2a6abf7158809cf4f3c).toList ∧
      s.chain = hexBlock 0x000102030405060708090a0b0c0d0e0f ∧ s.din = hexBlock 0x68656c6c6f2c20686172647761726520 :=
  ⟨{ midMessage .enc .cbc 2 4 with chain := _, din := _ }, rfl, rfl, rfl, rfl, rfl, rfl, rfl, rfl⟩
theorem witness_msgAbort : (midMessage .dec .cbc 3 0).msgActive = true ∧ State.reset.msgActive = false := ⟨rfl, rfl⟩
theorem witness_final_block_stale :
    (midMessage .enc .ecb 1 1).msgActive = true ∧ (midMessage .enc .ecb 1 1).msgRemain = 1 ∧
      (∀ k < (midMessage .enc .ecb 1 1).msgTail.toNat,
        (hexBlock 0x00FFFFFFFFFFFFFFFFFFFFFFFFFFFFFF).getD k 0 = (midMessage .enc .ecb 1 1).din.getD k 0) := by
  refine ⟨rfl, rfl, by decide +kernel⟩

/-- The core right after KEY_EXPAND 16 of an all zero KEY. -/
def expanded : State := holdSchedule .ten (storeOf (keyExpansion .ten (keyWordsOf State.reset.key 16))) State.reset
theorem witness_messages_precondition :
    KeyLength (List.replicate 16 (0 : Byte)).length ∧ ScheduleMadeFrom (List.replicate 16 0) expanded ∧
      ReadyForMessage expanded ∧ ([] : List Byte).length < 2 ^ 32 :=
  ⟨.inl rfl, ⟨State.reset, expanded, by decide +kernel, rfl, rfl, rfl, rfl, rfl⟩, ⟨rfl, rfl, rfl, rfl, rfl⟩, by decide⟩
theorem witness_round_trip :
    KeyLength (List.replicate 32 (7 : Byte)).length ∧
      (Mode.cbc = .cbc → ∃ v, some (List.replicate 16 (1 : Byte)) = some v ∧ v.length = 16) :=
  ⟨.inr (.inr rfl), fun _ => ⟨_, rfl, rfl⟩⟩

theorem witness_invariant_step :
    (pendingWord 0x1010).Inv ∧ ∃ t, step (pendingWord 0x1010) = .next t :=
  ⟨by unfold State.Inv; decide +kernel, _, rfl⟩
theorem witness_invariant_message : (midMessage .dec .ecb 0x10000000 0).Inv := by unfold State.Inv; decide +kernel
theorem witness_schedule_held : expanded.ScheduleHeld ∧ ∃ t, step { expanded with busy := true } = .next t :=
  ⟨fun _ => ⟨State.reset.key, 16, rfl, rfl⟩, _, rfl⟩
theorem witness_reached :
    ∃ t, Sys2Proof.core.run 2 { State.reset with inputs := [.write 0x008 32 0x00000020, .complete] } = .next t ∧
      t.msgActive = false ∧ t.msgMode = .ecb ∧ t.msgDir ≠ .dec := ⟨_, rfl, rfl, rfl, by decide⟩
theorem witness_schedule_written :
    ∃ t, step (pendingWord 0x1010) = .next t ∧ ¬ (t.rkw = (pendingWord 0x1010).rkw ∧ t.nr = (pendingWord 0x1010).nr ∧ t.keyValid = (pendingWord 0x1010).keyValid) :=
  ⟨_, rfl, by rintro ⟨_, h, _⟩; cases h⟩
theorem witness_busy_written :
    (asked (.write 0x008 32 5)).inputs = .write 0x008 32 5 :: [] ∧ (asked (.write 0x008 32 5)).busy = false ∧
      ∃ t, step (asked (.write 0x008 32 5)) = .next t ∧ t.busy ≠ (asked (.write 0x008 32 5)).busy :=
  ⟨rfl, rfl, _, rfl, by decide⟩
theorem witness_error_changes :
    ∃ t, step (pendingWord 0x00000030) = .next t ∧ t.err ≠ (pendingWord 0x00000030).err := ⟨_, rfl, by decide +kernel⟩
theorem witness_error_cleared :
    (∃ t, step (asked .reset) = .next t) ∧ ResetIsNext (asked .reset) ∧ (∃ t, step (pendingWord 1) = .next t) ∧
      CompletionIsNext (pendingWord 1) [] := ⟨⟨_, rfl⟩, ⟨_, rfl⟩, ⟨_, rfl⟩, ⟨rfl, .inl rfl⟩⟩
theorem witness_commands_frame :
    (∃ t, exec (.msgStart 0) (keyed 0) = .next t) ∧ (∃ t, exec .msgBlock (midMessage .enc .ecb 1 0) = .next t) ∧
      (∃ t, exec (.keyExpand 32) State.reset = .next t) ∧ (∃ t, exec .padCheck State.reset = .next t) :=
  ⟨⟨_, rfl⟩, ⟨_, rfl⟩, ⟨_, rfl⟩, ⟨_, rfl⟩⟩
/-- A state with other values in the registers that no command reads: what R46's column "reads" leaves out. -/
def elsewhere (s : State) : State :=
  { s with result := 9, dout := hexBlock 4, doutBytes := 7, err := .sequence, ovr := true, busy := true, pending := 5 }
/-- The hypotheses of every command's clause together, with and without an active message. -/
theorem witness_commands_reads :
    ∀ s ∈ [State.reset, keyed 3, midMessage .dec .cbc 1 0, midMessage .enc .ecb 2 15],
      (s.state = (elsewhere s).state ∧ s.rkw = (elsewhere s).rkw ∧ s.keyValid = (elsewhere s).keyValid ∧
        s.nr = (elsewhere s).nr ∧ s.key = (elsewhere s).key ∧ s.msgLen = (elsewhere s).msgLen ∧ s.iv = (elsewhere s).iv ∧
        s.ivWr = (elsewhere s).ivWr ∧ s.din = (elsewhere s).din ∧ s.chain = (elsewhere s).chain ∧
        s.msgActive = (elsewhere s).msgActive ∧ s.msgDir = (elsewhere s).msgDir ∧ s.msgMode = (elsewhere s).msgMode ∧
        s.msgRemain = (elsewhere s).msgRemain ∧ s.msgTail = (elsewhere s).msgTail) ∧
      ∀ i : Instr, ∃ t v, exec i s = .next t ∧ exec i (elsewhere s) = .next v := by
  intro s _
  refine ⟨by simp [elsewhere], fun i => ?_⟩
  obtain ⟨t, ht⟩ := exec_answers_next i s
  obtain ⟨v, hv⟩ := exec_answers_next i (elsewhere s)
  exact ⟨t, v, ht, hv⟩

/-- The ends of R53's ranges, and the gaps between them. -/
theorem witness_offsets :
    (∀ off ∈ [0x000, 0x018, 0x020, 0x08C, 0x100, 0x1EC], MappedOffset off) ∧
      ∀ off ∈ [0x01C, 0x090, 0x0FC, 0x1F0, 0xFFC, 0x062], ¬ MappedOffset off := by
  unfold MappedOffset; decide
theorem witness_reads : (asked (.read 0x1EC 32)).inputs = .read 0x1EC 32 :: [] ∧ ¬ (32 = 32 ∧ MappedOffset 0x1F0) := by
  refine ⟨rfl, ?_⟩; unfold MappedOffset; decide
/-- What a read returns at an end of each range of R54's list. -/
theorem witness_read_returns :
    ReadReturns State.reset 0x000 0x41455331 ∧ ReadReturns { State.reset with result := 0xFF } 0x00C 0xFF ∧
      ReadReturns { State.reset with key := State.reset.key.set 31 5 } 0x03C 5 ∧
      ReadReturns { State.reset with dout := State.reset.dout.set 12 1 } 0x08C 0x01000000 ∧
      ReadReturns { State.reset with rkw := State.reset.rkw.set 59 6 } 0x1EC 6 := by
  refine ⟨.inl ⟨rfl, rfl⟩, .inr (.inr (.inr (.inl ⟨rfl, rfl⟩))), ?_, ?_, ?_⟩
  · iterate 7 right
    exact .inl ⟨7, by decide, rfl, by decide +kernel⟩
  · iterate 12 right
    exact .inl ⟨3, by decide, rfl, by decide +kernel⟩
  · iterate 13 right
    exact ⟨59, by decide, rfl, by decide +kernel⟩
theorem witness_writes :
    (asked (.write 0x04C 32 1)).inputs = .write 0x04C 32 1 :: [] ∧ MappedOffset 0x04C ∧ (asked (.write 0x04C 32 1)).busy = false ∧
      ({ asked (.write 0x04C 32 1) with busy := true } : State).busy = true ∧ ¬ (16 = 32 ∧ MappedOffset 0x04C) := by
  refine ⟨rfl, ?_, rfl, rfl, ?_⟩ <;> unfold MappedOffset <;> decide
theorem witness_write_reads_back : Reg.iv 3 ≠ .cmd ∧ Reg.iv 3 ≠ .status := by decide
theorem witness_bus_errors : 8 ≠ 32 ∧ 0x062 % 4 ≠ 0 ∧ ¬ MappedOffset 0x01C := by unfold MappedOffset; decide
theorem witness_write_while_busy :
    (pendingWord 0x30).busy = true ∧ MappedOffset 0x000 ∧ (pendingWord 0x30).pending ≠ 0x00000001 ∧
      (pendingWord 1).pending = 0x00000001 := by
  refine ⟨rfl, ?_, by decide, rfl⟩; unfold MappedOffset; decide
theorem witness_enabled :
    (asked .reset).enabled = true ∧ (asked .complete).enabled = false ∧ (State.reset.inputs = [] ∧ State.reset.busy = false) ∧
      (∀ e ∈ ({ pendingWord 0 with inputs := [.read 4 32] } : State).inputs, ∃ off size, e = .read off size) := by
  refine ⟨rfl, rfl, ⟨rfl, rfl⟩, ?_⟩
  intro e he
  exact ⟨4, 32, by simpa using he⟩

end Sys2Proof.Tests
end

section
/-! PROOF. What writes the key schedule, BUSY and ERR (10_state.md R37, R25, R29). Commands, register writes and steps
each get one lemma that says which of these fields they leave alone; the three statements are case analyses on them. -/

namespace Sys2Proof.Machine

/-! ### What a command leaves alone -/

/-- The fields of the state that no command but KEY_EXPAND writes, with every other field at its reset value: two
states with the same frame differ at most in what R46 lets those commands write. -/
def State.commandFrame (s : State) : State :=
  { State.reset with
    busy := s.busy, pending := s.pending, keyValid := s.keyValid, nr := s.nr, rkw := s.rkw, msgLen := s.msgLen,
    key := s.key, din := s.din, inputs := s.inputs, replies := s.replies }

section
variable (s : State)

@[simp] theorem commandFrame_raise (c : ErrCode) : (raise c s).commandFrame = s.commandFrame := rfl
@[simp] theorem commandFrame_clearErrors : (clearErrors s).commandFrame = s.commandFrame := rfl
@[simp] theorem commandFrame_writeResult (v : Byte) : (writeResult v s).commandFrame = s.commandFrame := rfl
@[simp] theorem commandFrame_writeState (b : Block) : (writeState b s).commandFrame = s.commandFrame := rfl
@[simp] theorem commandFrame_endMessage : (endMessage s).commandFrame = s.commandFrame := rfl
@[simp] theorem commandFrame_writeDout (b : Block) (n : BitVec 5) :
    (writeDout b n s).commandFrame = s.commandFrame := rfl
@[simp] theorem commandFrame_paddingFailure : (paddingFailure s).commandFrame = s.commandFrame := rfl

@[simp] theorem commandFrame_setChain (c : Block) : (setChain c s).commandFrame = s.commandFrame := by
  rw [setChain_eq]; rfl

@[simp] theorem commandFrame_countBlock : (countBlock s).commandFrame = s.commandFrame := by
  by_cases h : s.msgRemain = 1
  · rw [countBlock_last h]; rfl
  · rw [countBlock_more h]; rfl

@[simp] theorem commandFrame_beginMessage (dir : Dir) (mode : Mode) :
    (beginMessage dir mode s).commandFrame = s.commandFrame := by
  rw [beginMessage_eq]; rfl

@[simp] theorem commandFrame_encryptMsgBlock : (encryptMsgBlock s).commandFrame = s.commandFrame := by
  simp [encryptMsgBlock]

@[simp] theorem commandFrame_decryptMsgBlock : (decryptMsgBlock s).commandFrame = s.commandFrame := by
  simp only [decryptMsgBlock]
  split
  · split <;> simp
  · simp

end

theorem inputs_of_commandFrame_eq {s t : State} (h : t.commandFrame = s.commandFrame) : t.inputs = s.inputs := by
  change t.commandFrame.inputs = s.commandFrame.inputs
  rw [h]

theorem schedule_of_commandFrame_eq {s t : State} (h : t.commandFrame = s.commandFrame) :
    t.rkw = s.rkw ∧ t.nr = s.nr ∧ t.keyValid = s.keyValid := by
  change t.commandFrame.rkw = s.commandFrame.rkw ∧ t.commandFrame.nr = s.commandFrame.nr ∧
    t.commandFrame.keyValid = s.commandFrame.keyValid
  rw [h]
  exact ⟨rfl, rfl, rfl⟩

/-- A KEY_EXPAND during a message raises SEQUENCE and writes nothing else; without one it drops the schedule or holds a
new one (R147). -/
theorem execKeyExpand_cases {len : Byte} {s t : State} (h : execKeyExpand len s = .next t) :
    (s.msgActive = true ∧ t = raise .sequence s) ∨
    (s.msgActive = false ∧
      (t = raise .invalidKeyLength (dropSchedule s) ∨ ∃ r w, t = holdSchedule r w s)) := by
  unfold execKeyExpand at h
  cases hm : s.msgActive with
  | true => simp only [hm, if_true, Host.Outcome.next.injEq] at h; exact .inl ⟨rfl, h.symm⟩
  | false =>
    simp only [hm, Bool.false_eq_true, if_false] at h
    split at h
    · cases h; exact .inr ⟨rfl, .inl rfl⟩
    · cases h; exact .inr ⟨rfl, .inr ⟨_, _, rfl⟩⟩

/-- Every command keeps the frame, unless it is a KEY_EXPAND with no message active. -/
theorem exec_commandFrame {i : Instr} {s t : State} (h : exec i s = .next t) :
    t.commandFrame = s.commandFrame ∨
    (∃ len, i = .keyExpand len ∧ s.msgActive = false ∧
      (t = raise .invalidKeyLength (dropSchedule s) ∨ ∃ r w, t = holdSchedule r w s)) := by
  cases i with
  | keyExpand len =>
    obtain ⟨-, rfl⟩ | ⟨hm, ht⟩ := execKeyExpand_cases h
    · exact .inl rfl
    · exact .inr ⟨len, rfl, hm, ht⟩
  | nop => cases h; exact .inl rfl
  | clrErr => cases h; exact .inl (commandFrame_clearErrors s)
  | gfMul | sbox | invSbox => cases h; exact .inl (commandFrame_writeResult s _)
  | subBytes | invSubBytes | shiftRows | invShiftRows | mixColumns | invMixColumns =>
    cases h; exact .inl (commandFrame_writeState s _)
  | addRoundKey n =>
    simp only [exec, execAddRoundKey] at h
    split at h
    · cases h; exact .inl rfl
    · split at h <;> cases h <;> exact .inl (by simp)
  | encBlock => simp only [exec, execEncBlock] at h; split at h <;> cases h <;> exact .inl (by simp)
  | decBlock => simp only [exec, execDecBlock] at h; split at h <;> cases h <;> exact .inl (by simp)
  | padAdd n => simp only [exec, execPadAdd] at h; split at h <;> cases h <;> exact .inl (by simp)
  | padCheck => simp only [exec, execPadCheck] at h; split at h <;> cases h <;> exact .inl (by simp)
  | msgStart a => simp only [exec, execMsgStart] at h; split at h <;> cases h <;> exact .inl (by simp)
  | msgBlock =>
    simp only [exec, execMsgBlock] at h
    split at h
    · cases h; exact .inl rfl
    · split at h <;> cases h <;> exact .inl (by simp)
  | msgAbort => simp only [exec, execMsgAbort] at h; split at h <;> cases h <;> exact .inl rfl

/-- No command touches the events still to come. -/
theorem exec_inputs {i : Instr} {s t : State} (h : exec i s = .next t) : t.inputs = s.inputs := by
  obtain hf | ⟨_, _, _, rfl | ⟨_, _, rfl⟩⟩ := exec_commandFrame h
  · exact inputs_of_commandFrame_eq hf
  · rfl
  · rfl

/-! ### What performing a word leaves alone -/

theorem execute_inputs {w : Word} {s t : State} (h : execute w s = .next t) : t.inputs = s.inputs := by
  obtain ⟨-, -, rfl⟩ | ⟨-, -, rfl⟩ | ⟨-, -, rfl⟩ | ⟨-, i, -, hx⟩ := execute_cases h
  · rfl
  · rfl
  · rfl
  · exact exec_inputs hx

/-- A performed word keeps the frame, unless it is a KEY_EXPAND with no message active. -/
theorem execute_commandFrame {w : Word} {s t : State} (h : execute w s = .next t) :
    t.commandFrame = s.commandFrame ∨ (s.msgActive = false ∧ ∃ len, decode w = .ok (.keyExpand len)) := by
  obtain ⟨-, -, rfl⟩ | ⟨-, -, rfl⟩ | ⟨-, -, rfl⟩ | ⟨-, i, hd, hx⟩ := execute_cases h
  · exact .inl rfl
  · exact .inl rfl
  · exact .inl rfl
  · obtain hf | ⟨len, rfl, hm, -⟩ := exec_commandFrame hx
    · exact .inl hf
    · exact .inr ⟨hm, len, hd⟩

/-- CLR_ERR has one word (R84). -/
theorem decode_eq_clrErr {w : Word} : decode w = .ok .clrErr ↔ w = 0x00000001 := by
  constructor
  · intro h
    obtain ⟨hr, ho⟩ := decode_eq_ok.mp h
    obtain ⟨hopc, ha, hb⟩ : opcField w = 1#8 ∧ aField w = 0#8 ∧ bField w = 0#8 := by
      unfold decodeOpcode at ho
      split at ho <;> simp_all [plainForm_eq_ok, oneByteForm_eq_ok, msgStartForm_eq_ok]
    rw [← commandWord_fields hr, hopc, ha, hb]
    rfl
  · rintro rfl
    rfl

/-- A performed word that changes ERR is CLR_ERR, or it records the first error with the gate open (R274). -/
theorem execute_err {w : Word} {s t : State} (h : execute w s = .next t) (hne : t.err ≠ s.err) :
    decode w = .ok .clrErr ∨ (s.err = .none ∧ s.ovr = false ∧ t.err ≠ .none) := by
  have recorded (hg : gateClosed s = false) : s.err = .none ∧ s.ovr = false ∧ t.err ≠ .none := by
    obtain ⟨he, ho⟩ := gateClosed_eq_false.mp hg
    exact ⟨he, ho, he ▸ hne⟩
  obtain ⟨-, -, rfl⟩ | ⟨-, hd, -⟩ | ⟨hg, -, -⟩ | ⟨hg, -⟩ := execute_cases h
  · exact absurd rfl hne
  · exact .inl hd
  · exact .inr (recorded hg)
  · exact .inr (recorded hg)

/-- CLR_ERR's word clears ERR and OVR whether the gate is open or closed. -/
theorem execute_clrErr {w : Word} (hd : decode w = .ok .clrErr) (s : State) :
    execute w s = .next (clearErrors s) := by
  cases hg : gateClosed s with
  | true => rw [execute_closed hg, if_pos hd]
  | false => rw [execute_open_ok hg hd]; rfl

/-! ### What a register write leaves alone -/

theorem writeReg_busy {r : Reg} (h : r ≠ .cmd) (v : Word) (s : State) : (writeReg r v s).busy = s.busy := by
  cases r <;> simp_all [writeReg]

/-- The host's writes reach neither the schedule nor ERR. -/
theorem busWrite_keeps (off size : Nat) (v : Word) (s : State) :
    (busWrite off size v s).rkw = s.rkw ∧ (busWrite off size v s).nr = s.nr ∧
      (busWrite off size v s).keyValid = s.keyValid ∧ (busWrite off size v s).err = s.err := by
  obtain ⟨-, h⟩ | ⟨r, -, -, h⟩ | ⟨r, -, -, h⟩ := busWrite_cases off size v s <;> rw [h]
  · exact ⟨rfl, rfl, rfl, rfl⟩
  · exact ⟨rfl, rfl, rfl, rfl⟩
  · cases r <;> simp [writeReg, issue]

/-- A host write that changes BUSY is a CMD write while idle. -/
theorem busWrite_busy {off size : Nat} {v : Word} {s : State} (hne : (busWrite off size v s).busy ≠ s.busy) :
    s.busy = false ∧ off = 0x008 ∧ size = 32 := by
  obtain ⟨-, h⟩ | ⟨r, -, -, h⟩ | ⟨r, hr, hb, h⟩ := busWrite_cases off size v s <;> rw [h] at hne
  · exact absurd rfl hne
  · exact absurd rfl hne
  · obtain rfl : r = .cmd := by_contra fun hc => hne (writeReg_busy hc v s)
    obtain ⟨hs, ho⟩ := regAt_eq_some.mp hr
    exact ⟨hb, ho, hs⟩

/-! ### The steps that write: a completion and a reset -/

theorem step_of_completionIsNext {s : State} {rest : List Event} (h : CompletionIsNext s rest) :
    step s = coreComplete { s with inputs := rest } := by
  obtain ⟨hb, hi | ⟨hi, rfl⟩⟩ := h
  · simp [step, nextStep, performEvent, hi, hb]
  · cases s
    simp_all [step, nextStep, performUnprompted]

theorem step_of_reset {s : State} {rest : List Event} (h : s.inputs = .reset :: rest) :
    step s = .next (resetCore { s with inputs := rest }) := by
  simp [step, nextStep, performEvent, h]

/-- Settles O46: a step that changes the schedule is a reset, or a completion whose word does not keep the frame. -/
theorem onlyKeyExpandAndResetWriteTheSchedule : Obligations.OnlyKeyExpandAndResetWriteTheSchedule := by
  refine ⟨fun s t h hne => ?_, fun s len hm => by simp [exec, execKeyExpand, raise, hm]⟩
  cases step_cases h with
  | idle _ _ ht => subst ht; exact absurd ⟨rfl, rfl, rfl⟩ hne
  | read _ _ _ _ ht => subst ht; exact absurd ⟨rfl, rfl, rfl⟩ hne
  | write off size v rest _ ht =>
    subst ht
    obtain ⟨hrkw, hnr, hkv, -⟩ := busWrite_keeps off size v { s with inputs := rest }
    exact absurd ⟨hrkw, hnr, hkv⟩ hne
  | reset rest hi _ => exact .inl ⟨rest, hi⟩
  | complete rest hi hb ht =>
    obtain ⟨u, hu, rfl⟩ := coreComplete_eq_next.mp ht
    obtain hf | hk := execute_commandFrame hu
    · exact absurd (schedule_of_commandFrame_eq hf) hne
    · exact .inr ⟨⟨rest, hb, hi⟩, hk⟩

/-- Settles O47: the CMD write is `issue`, the end of a completion is `retire`, and every other step but a reset keeps
BUSY. -/
theorem onlyIssueCompletionAndResetWriteBusy : Obligations.OnlyIssueCompletionAndResetWriteBusy := by
  refine ⟨fun s w rest hi hb => ?issue, fun s rest hc => ?completion, fun s t h hne => ?other⟩
  case issue =>
    have hreg : regAt 0x008 32 = some .cmd := regAt_offset .cmd
    simp [step, nextStep, performEvent, hi, busWrite, busWriteReply, hreg, hb, writeReg, issue, answer]
  case completion =>
    obtain ⟨u, hu⟩ := execute_answers_next s.pending { s with inputs := rest }
    refine ⟨retire u, ?_, rfl, rfl, execute_inputs hu⟩
    rw [step_of_completionIsNext hc]
    exact coreComplete_eq_next.mpr ⟨u, hu, rfl⟩
  case other =>
    cases step_cases h with
    | idle _ _ ht => subst ht; exact absurd rfl hne
    | read _ _ _ _ ht => subst ht; exact absurd rfl hne
    | write off size v rest hi ht =>
      subst ht
      obtain ⟨hb, rfl, rfl⟩ := busWrite_busy hne
      exact .inr (.inr ⟨hb, v, rest, hi⟩)
    | reset rest hi _ => exact .inl ⟨rest, hi⟩
    | complete rest hi hb _ => exact .inr (.inl ⟨rest, hb, hi⟩)

/-- Settles O48: of all steps but a reset only a completion reaches ERR, and there `execute_err` says when. -/
theorem theFirstErrorStays : Obligations.TheFirstErrorStays := by
  refine ⟨fun s t h hne => ?changes, fun s t h hn => ?cleared⟩
  case changes =>
    cases step_cases h with
    | idle _ _ ht => subst ht; exact absurd rfl hne
    | read _ _ _ _ ht => subst ht; exact absurd rfl hne
    | write off size v rest _ ht =>
      subst ht
      obtain ⟨-, -, -, herr⟩ := busWrite_keeps off size v { s with inputs := rest }
      exact absurd herr hne
    | reset rest hi _ => exact .inl ⟨rest, hi⟩
    | complete rest hi hb ht =>
      obtain ⟨u, hu, rfl⟩ := coreComplete_eq_next.mp ht
      exact .inr ⟨rest, ⟨hb, hi⟩, (execute_err hu hne).imp_left decode_eq_clrErr.mp⟩
  case cleared =>
    obtain ⟨rest, hi⟩ | ⟨rest, hc, hp⟩ := hn
    · rw [step_of_reset hi] at h
      cases h
      exact ⟨rfl, rfl⟩
    · rw [step_of_completionIsNext hc] at h
      obtain ⟨u, hu, rfl⟩ := coreComplete_eq_next.mp h
      rw [execute_clrErr (decode_eq_clrErr.mpr hp)] at hu
      cases hu
      exact ⟨rfl, rfl⟩

end Sys2Proof.Machine
end

section
/-! PROOF. The register window (20_memory.md R52 to R56). Two facts carry the four statements: the mapped offsets are
the registers' own offsets, and a read returns R54's entry for the register at its offset. -/

namespace Sys2Proof.Machine

/-! ### Words and their bytes -/

/-- Byte `i` of the word that was written, read back from its place in the register. -/
theorem getD_setRegWord_same {n : Nat} (x : Vector Byte n) (j : Nat) (v : Word) {i : Nat} (hi : i < 4)
    (hn : 4 * j + i < n) : (setRegWord x j v).getD (4 * j + i) 0 = wordByte v i := by
  have hword : (4 * j + i) / 4 = j := by omega
  have hbyte : (4 * j + i) % 4 = i := by omega
  simp [Vector.getD, hn, getElem_setRegWord, hword, hbyte]

theorem regWord_setRegWord {n : Nat} (x : Vector Byte n) (j i : Nat) (v : Word) (h : 4 * j + 3 < n) :
    regWord (setRegWord x j v) i = if i = j then v else regWord x i := by
  split
  · next hij => rw [hij, regWord_setRegWord_same x j v h]
  · next hij => exact regWord_setRegWord_other x j i v hij

/-- What the model stores is what R56 says of a stored word. -/
theorem storesWord_setRegWord {n : Nat} (x : Vector Byte n) (j : Nat) (v : Word) :
    StoresWord x j v (setRegWord x j v) :=
  fun k => getElem_setRegWord x j v k.val k.isLt

theorem wordByte_extractLsb' {n : Nat} (v : BitVec n) (start i : Nat) :
    wordByte (v.extractLsb' start 32) i = v.extractLsb' (start + (24 - 8 * i)) 8 := by
  ext b hb
  have hin : 24 - 8 * i + b < 32 := by omega
  simp [wordByte, hin, Nat.add_assoc]

/-- Byte `i` of word `j` of a 128-bit number lies where `hexBlock` takes byte `4j + i` from. -/
theorem getD_hexBlock (v : BitVec 128) {j i : Nat} (hj : j < 4) (hi : i < 4) :
    (hexBlock v).getD (4 * j + i) 0 = wordByte (v.extractLsb' (96 - 32 * j) 32) i := by
  have hlt : 4 * j + i < 16 := by omega
  have hplace : 96 - 32 * j + (24 - 8 * i) = 120 - 8 * (4 * j + i) := by omega
  simp [Vector.getD, hlt, hexBlock, wordByte_extractLsb', hplace]

/-- A block's words are its hex string in order (R56). -/
theorem regWord_hexBlock (v : BitVec 128) {j : Nat} (hj : j < 4) :
    regWord (hexBlock v) j = v.extractLsb' (96 - 32 * j) 32 := by
  have byte {i : Nat} (hi : i < 4) := getD_hexBlock v hj hi
  have byte0 := byte (i := 0) (by decide)
  rw [Nat.add_zero] at byte0
  rw [regWord, byte0, byte (by decide), byte (by decide), byte (by decide), packWord_wordByte]

/-- Settles O55: packing and unpacking undo each other byte by byte. -/
theorem wordsPackBytesBigEndian : Obligations.WordsPackBytesBigEndian := by
  refine ⟨fun x j => ?packed, fun x j v => ?written, fun v j => regWord_hexBlock v j.isLt⟩
  case packed =>
    exact ⟨wordByte_packWord_zero .., wordByte_packWord_one .., wordByte_packWord_two .., wordByte_packWord_three ..⟩
  case written =>
    have byte {i : Nat} (hi : i < 4) : (setRegWord x j v).getD (4 * j + i) 0 = wordByte v i :=
      getD_setRegWord_same x j v hi (by omega)
    refine ⟨byte (i := 0) (by decide), byte (by decide), byte (by decide), byte (by decide), fun i => ?_⟩
    simp only [regWord_setRegWord x j i v (by omega), Fin.ext_iff]

/-! ### The mapped offsets -/

theorem mappedOffset_offset (r : Reg) : MappedOffset r.offset := by
  cases r <;> simp [MappedOffset, Reg.offset] <;> omega

/-- The offsets of R53's list are the registers' offsets of R20. -/
theorem mappedOffset_iff {off : Nat} : MappedOffset off ↔ ∃ r : Reg, off = r.offset := by
  refine ⟨fun h => ?_, fun ⟨r, hr⟩ => hr ▸ mappedOffset_offset r⟩
  obtain hfixed | ⟨hmod, hlo, hhi⟩ | ⟨hmod, hlo, hhi⟩ := h
  · simp only [List.mem_cons, List.not_mem_nil, or_false] at hfixed
    obtain rfl | rfl | rfl | rfl | rfl | rfl | rfl := hfixed
    exacts [⟨.id, rfl⟩, ⟨.status, rfl⟩, ⟨.cmd, rfl⟩, ⟨.result, rfl⟩, ⟨.msgLen, rfl⟩, ⟨.msgRemain, rfl⟩,
      ⟨.msgTail, rfl⟩]
  · obtain h | h | h | h | h | h :
        off < 0x040 ∨ (0x040 ≤ off ∧ off < 0x050) ∨ (0x050 ≤ off ∧ off < 0x060) ∨ (0x060 ≤ off ∧ off < 0x070) ∨
          (0x070 ≤ off ∧ off < 0x080) ∨ 0x080 ≤ off := by omega
    · exact ⟨.key ⟨(off - 0x020) / 4, by omega⟩, by simp only [Reg.offset]; omega⟩
    · exact ⟨.iv ⟨(off - 0x040) / 4, by omega⟩, by simp only [Reg.offset]; omega⟩
    · exact ⟨.chain ⟨(off - 0x050) / 4, by omega⟩, by simp only [Reg.offset]; omega⟩
    · exact ⟨.state ⟨(off - 0x060) / 4, by omega⟩, by simp only [Reg.offset]; omega⟩
    · exact ⟨.din ⟨(off - 0x070) / 4, by omega⟩, by simp only [Reg.offset]; omega⟩
    · exact ⟨.dout ⟨(off - 0x080) / 4, by omega⟩, by simp only [Reg.offset]; omega⟩
  · exact ⟨.rkw ⟨(off - 0x100) / 4, by omega⟩, by simp only [Reg.offset]; omega⟩

theorem regAt_eq_none {off size : Nat} : regAt off size = none ↔ ¬ (size = 32 ∧ MappedOffset off) := by
  simp only [Option.eq_none_iff_forall_ne_some, ne_eq, regAt_eq_some, mappedOffset_iff, ← exists_and_left, not_exists]

/-- R52 and R53 apart: a mapped offset is a multiple of 4. -/
theorem regAt_eq_none_iff_illegal {off size : Nat} :
    regAt off size = none ↔ size ≠ 32 ∨ off % 4 ≠ 0 ∨ ¬ MappedOffset off := by
  have aligned : MappedOffset off → off % 4 = 0 := by
    rw [mappedOffset_iff]
    rintro ⟨r, rfl⟩
    exact offset_mod_four r
  rw [regAt_eq_none]
  tauto

/-- Settles O53: an illegal access reaches no register, and then neither a read nor a write does anything. -/
theorem busErrorsHaveNoEffect : Obligations.BusErrorsHaveNoEffect := by
  refine ⟨fun off size => regAt_eq_none_iff_illegal, fun s off size v h => ?_⟩
  have hnone := regAt_eq_none_iff_illegal.mpr h
  constructor
  · simp [performEvent, busRead, hnone, answer]
  · simp [performEvent, busWriteReply, busWrite_none hnone, hnone, answer]

/-! ### Reads -/

theorem eq_setWidth_of_toNat_eq {m n : Nat} {w : BitVec n} {x : BitVec m} (hmn : m ≤ n) (h : w.toNat = x.toNat) :
    w = x.setWidth n :=
  BitVec.eq_of_toNat_eq (h.trans (BitVec.toNat_setWidth_of_le hmn).symm)

theorem readReturns_readReg (s : State) (r : Reg) : ReadReturns s r.offset (readReg r s) := by
  cases r with
  | id => exact .inl ⟨rfl, rfl⟩
  | status => exact .inr (.inl ⟨rfl, rfl⟩)
  | cmd => exact .inr (.inr (.inl ⟨rfl, rfl⟩))
  | result =>
    iterate 3 right
    exact .inl ⟨rfl, BitVec.toNat_setWidth_of_le (by decide)⟩
  | msgLen =>
    iterate 4 right
    exact .inl ⟨rfl, rfl⟩
  | msgRemain =>
    iterate 5 right
    exact .inl ⟨rfl, BitVec.toNat_setWidth_of_le (by decide)⟩
  | msgTail =>
    iterate 6 right
    exact .inl ⟨rfl, BitVec.toNat_setWidth_of_le (by decide)⟩
  | key j =>
    iterate 7 right
    exact .inl ⟨j, j.isLt, rfl, rfl⟩
  | iv j =>
    iterate 8 right
    exact .inl ⟨j, j.isLt, rfl, rfl⟩
  | chain j =>
    iterate 9 right
    exact .inl ⟨j, j.isLt, rfl, rfl⟩
  | state j =>
    iterate 10 right
    exact .inl ⟨j, j.isLt, rfl, rfl⟩
  | din j =>
    iterate 11 right
    exact .inl ⟨j, j.isLt, rfl, rfl⟩
  | dout j =>
    iterate 12 right
    exact .inl ⟨j, j.isLt, rfl, rfl⟩
  | rkw i =>
    iterate 13 right
    exact ⟨i, i.isLt, rfl, by simp [readReg, Vector.getD]⟩

/-- Each entry of R54's list is the read of the register that stands there. -/
theorem ReadReturns.eq_readReg {s : State} {off : Nat} {w : Word} (h : ReadReturns s off w) :
    ∃ r : Reg, off = r.offset ∧ w = readReg r s := by
  obtain ⟨rfl, rfl⟩ | ⟨rfl, rfl⟩ | ⟨rfl, rfl⟩ | ⟨rfl, hw⟩ | ⟨rfl, rfl⟩ | ⟨rfl, hw⟩ | ⟨rfl, hw⟩ | ⟨j, hj, rfl, rfl⟩ |
    ⟨j, hj, rfl, rfl⟩ | ⟨j, hj, rfl, rfl⟩ | ⟨j, hj, rfl, rfl⟩ | ⟨j, hj, rfl, rfl⟩ | ⟨j, hj, rfl, rfl⟩ |
    ⟨i, hi, rfl, rfl⟩ := h
  · exact ⟨.id, rfl, rfl⟩
  · exact ⟨.status, rfl, rfl⟩
  · exact ⟨.cmd, rfl, rfl⟩
  · exact ⟨.result, rfl, eq_setWidth_of_toNat_eq (by decide) hw⟩
  · exact ⟨.msgLen, rfl, rfl⟩
  · exact ⟨.msgRemain, rfl, eq_setWidth_of_toNat_eq (by decide) hw⟩
  · exact ⟨.msgTail, rfl, eq_setWidth_of_toNat_eq (by decide) hw⟩
  · exact ⟨.key ⟨j, hj⟩, rfl, rfl⟩
  · exact ⟨.iv ⟨j, hj⟩, rfl, rfl⟩
  · exact ⟨.chain ⟨j, hj⟩, rfl, rfl⟩
  · exact ⟨.state ⟨j, hj⟩, rfl, rfl⟩
  · exact ⟨.din ⟨j, hj⟩, rfl, rfl⟩
  · exact ⟨.dout ⟨j, hj⟩, rfl, rfl⟩
  · exact ⟨.rkw ⟨i, hi⟩, rfl, by simp [readReg, Vector.getD, hi]⟩

/-- A read answers what R54's list gives. -/
theorem ReadReturns.busRead_eq {s : State} {off : Nat} {w : Word} (h : ReadReturns s off w) :
    busRead off 32 s = .data w := by
  obtain ⟨r, rfl, rfl⟩ := h.eq_readReg
  exact busRead_offset r s

theorem step_of_read {s : State} {off size : Nat} {rest : List Event} (h : s.inputs = .read off size :: rest) :
    step s = .next { s with inputs := rest, replies := busRead off size s :: s.replies } := by
  have taken (r : Reg) : readReg r { s with inputs := rest } = readReg r s := by cases r <;> rfl
  simp [step, nextStep, performEvent, h, busRead, taken, answer]

/-- Settles O51: a read's answer is the read of the register at the offset, and `ReadReturns` names no other. -/
theorem readsAnswerTheRegisters : Obligations.ReadsAnswerTheRegisters := by
  refine ⟨fun s off size rest hi => ⟨busRead off size s, step_of_read hi, ?listed, ?answered, ?busError⟩,
    readReturns_readReg⟩
  case listed =>
    intro _ hm
    obtain ⟨r, rfl⟩ := mappedOffset_iff.mp hm
    exact ⟨readReg r s, readReturns_readReg s r⟩
  case answered =>
    rintro w rfl hw
    exact hw.busRead_eq
  case busError =>
    intro hillegal
    simp [busRead, regAt_eq_none.mpr hillegal]

/-! ### Writes -/

theorem writeLeaves_writeReg (s : State) (r : Reg) (v : Word) : WriteLeaves s r.offset v (writeReg r v s) := by
  have stored {n : Nat} (x : Vector Byte n) (j : Nat) := storesWord_setRegWord x j v
  cases r with
  | cmd => exact .inl ⟨rfl, rfl⟩
  | msgLen => exact .inr (.inl ⟨rfl, rfl⟩)
  | key j => exact .inr (.inr (.inl ⟨j, j.isLt, rfl, _, stored s.key j, rfl⟩))
  | iv j => exact .inr (.inr (.inr (.inl ⟨j, j.isLt, rfl, _, stored s.iv j, rfl⟩)))
  | state j => exact .inr (.inr (.inr (.inr (.inl ⟨j, j.isLt, rfl, _, stored s.state j, rfl⟩))))
  | din j => exact .inr (.inr (.inr (.inr (.inr (.inl ⟨j, j.isLt, rfl, _, stored s.din j, rfl⟩)))))
  | id | status | result | msgRemain | msgTail =>
    iterate 6 right
    exact ⟨.inl (by simp [Reg.offset]), rfl⟩
  | chain j =>
    iterate 6 right
    exact ⟨.inr (.inl ⟨j, j.isLt, .inl rfl⟩), rfl⟩
  | dout j =>
    iterate 6 right
    exact ⟨.inr (.inl ⟨j, j.isLt, .inr rfl⟩), rfl⟩
  | rkw i =>
    iterate 6 right
    exact ⟨.inr (.inr ⟨i, i.isLt, rfl⟩), rfl⟩

/-- The registers that keep the word a host writes to them (R55), as the statement lists them. -/
def Reg.StoresWrites (r : Reg) : Prop :=
  r = .msgLen ∨ (∃ j, r = .key j) ∨ (∃ j, r = .iv j) ∨ (∃ j, r = .state j) ∨ (∃ j, r = .din j)

theorem readReg_writeReg_same {r : Reg} (h : r.StoresWrites) (v : Word) (s : State) :
    readReg r (writeReg r v s) = v := by
  obtain rfl | ⟨j, rfl⟩ | ⟨j, rfl⟩ | ⟨j, rfl⟩ | ⟨j, rfl⟩ := h
  · rfl
  · exact regWord_setRegWord_same s.key j v (by omega)
  · exact regWord_setRegWord_same s.iv j v (by omega)
  · exact regWord_setRegWord_same s.state j v (by omega)
  · exact regWord_setRegWord_same s.din j v (by omega)

/-- A register that neither stores nor issues is read-only (R55). -/
theorem writeReg_of_readOnly {r : Reg} (h : ¬ r.StoresWrites) (hc : r ≠ .cmd) (v : Word) (s : State) :
    writeReg r v s = s := by
  cases r with
  | cmd => exact absurd rfl hc
  | msgLen | key | iv | state | din => exact absurd (by simp [Reg.StoresWrites]) h
  | id | status | result | msgRemain | msgTail | chain | dout | rkw => rfl

/-- A write is seen in no other register, but for STATUS, which shows BUSY and IV_WR. -/
theorem readReg_writeReg_other {r q : Reg} (h : q ≠ r) (hq : q ≠ .status) (v : Word) (s : State) :
    readReg q (writeReg r v s) = readReg q s := by
  cases q with
  | status => exact absurd rfl hq
  | id | cmd => rfl
  | result | msgRemain | msgTail | chain | dout | rkw => cases r <;> simp only [readReg, writeReg, issue]
  | msgLen =>
    cases r with
    | msgLen => exact absurd rfl h
    | _ => simp only [readReg, writeReg, issue]
  | key i =>
    cases r with
    | key j => exact regWord_setRegWord_other s.key j i v fun e => h (congrArg Reg.key (Fin.ext e))
    | _ => simp only [readReg, writeReg, issue]
  | iv i =>
    cases r with
    | iv j => exact regWord_setRegWord_other s.iv j i v fun e => h (congrArg Reg.iv (Fin.ext e))
    | _ => simp only [readReg, writeReg, issue]
  | state i =>
    cases r with
    | state j => exact regWord_setRegWord_other s.state j i v fun e => h (congrArg Reg.state (Fin.ext e))
    | _ => simp only [readReg, writeReg, issue]
  | din i =>
    cases r with
    | din j => exact regWord_setRegWord_other s.din j i v fun e => h (congrArg Reg.din (Fin.ext e))
    | _ => simp only [readReg, writeReg, issue]

theorem step_of_write {s : State} {off size : Nat} {v : Word} {rest : List Event}
    (h : s.inputs = .write off size v :: rest) :
    step s = .next (answer (busWriteReply off size) (busWrite off size v { s with inputs := rest })) := by
  simp [step, nextStep, performEvent, h]

@[simp] theorem busWriteReply_offset (r : Reg) : busWriteReply r.offset 32 = .ok := by simp [busWriteReply]

theorem answer_writeReg (a : Reply) (r : Reg) (v : Word) (s : State) :
    answer a (writeReg r v s) = writeReg r v (answer a s) := by
  cases r <;> simp only [writeReg, issue, answer]

/-- Settles O52: a write reaches no register, or the one at its offset; what it stores there is read back, and no other
register's read sees it. -/
theorem writesStoreTheirWord : Obligations.WritesStoreTheirWord := by
  refine ⟨fun s off size v rest hi => ⟨_, step_of_write hi, ?illegal, ?busy, ?idle⟩, writeLeaves_writeReg,
    fun s r q v hr hq => ?readBack⟩
  case illegal =>
    intro hillegal
    have hnone := regAt_eq_none.mpr hillegal
    simp [busWriteReply, hnone, busWrite_none hnone, answer]
  case busy =>
    rintro rfl hm hb
    obtain ⟨r, rfl⟩ := mappedOffset_iff.mp hm
    rw [busWrite_offset_busy r v (s := { s with inputs := rest }) hb, busWriteReply_offset]
    rfl
  case idle =>
    rintro rfl hm hb
    obtain ⟨r, rfl⟩ := mappedOffset_iff.mp hm
    rw [busWrite_offset_idle r v (s := { s with inputs := rest }) hb, busWriteReply_offset, answer_writeReg]
    exact writeLeaves_writeReg _ r v
  case readBack =>
    split
    · next hs =>
      obtain ⟨rfl, hstores⟩ := hs
      exact readReg_writeReg_same hstores v s
    · next hs =>
      by_cases hqr : q = r
      · rw [writeReg_of_readOnly (fun hstores => hs ⟨hqr, hstores⟩) hr]
      · exact readReg_writeReg_other hqr hq v s

end Sys2Proof.Machine
end

section
/-! PROOF. Which words decode (30_encoding.md R83, R85). R83's conditions are proved equivalent to three things once: to
acceptance by the decoder, to a match with a row of R84's table, and to not being on R85's list. -/

namespace Sys2Proof.Machine

/-! ### A word and its four fields -/

theorem append_fields (w : Word) : rsvField w ++ bField w ++ aField w ++ opcField w = w := by
  ext i hi; simp [rsvField, bField, aField, opcField]; grind

/-- A word is its four fields (R81). -/
theorem word_eq_iff_fields {w v : Word} :
    w = v ↔ opcField w = opcField v ∧ aField w = aField v ∧ bField w = bField v ∧ rsvField w = rsvField v := by
  refine ⟨fun h => by simp [h], fun ⟨hopc, ha, hb, hrsv⟩ => ?_⟩
  rw [← append_fields w, hopc, ha, hb, hrsv, append_fields]

/-- A word matches under a mask exactly when each of its fields does. -/
theorem and_eq_iff_fields {w mask pattern : Word} :
    w &&& mask = pattern ↔
      opcField w &&& opcField mask = opcField pattern ∧ aField w &&& aField mask = aField pattern ∧
      bField w &&& bField mask = bField pattern ∧ rsvField w &&& rsvField mask = rsvField pattern := by
  simp only [word_eq_iff_fields, opcField, aField, bField, rsvField, BitVec.extractLsb'_and]

/-! ### R83's conditions and the decoder -/

/-- Conditions 3 and 4 of R83: the fields that the opcode does not use are 0, and so is A[7:2] of MSG_START. -/
def UnusedBitsAreZero (opc a b : Byte) : Prop :=
  (opc ≠ 0x08#8 → b = 0#8) ∧ (opc ∉ opcodesWithA → a = 0#8) ∧ (opc = 0x50#8 → a.extractLsb' 2 6 = 0#6)

/-- The four conditions of R83. -/
def Decodes (w : Word) : Prop :=
  opcField w ∈ assignedOpcodes ∧ rsvField w = 0#8 ∧ UnusedBitsAreZero (opcField w) (aField w) (bField w)

theorem decodeOpcode_of_notMem {opc : Byte} (h : opc ∉ assignedOpcodes) (a b : Byte) :
    decodeOpcode opc a b = .error .unassignedOpcode := by
  unfold decodeOpcode
  split <;> simp_all [assignedOpcodes]

theorem exists_decodeOpcode_eq_ok_of_mem {opc : Byte} (h : opc ∈ assignedOpcodes) {a b : Byte} :
    (∃ i, decodeOpcode opc a b = .ok i) ↔ UnusedBitsAreZero opc a b := by
  simp only [assignedOpcodes, List.mem_cons, List.not_mem_nil, or_false] at h
  obtain rfl | rfl | rfl | rfl | rfl | rfl | rfl | rfl | rfl | rfl | rfl | rfl | rfl | rfl | rfl | rfl | rfl | rfl |
    rfl | rfl := h <;>
  simp [decodeOpcode, plainForm_eq_ok, oneByteForm_eq_ok, msgStartForm_eq_ok, UnusedBitsAreZero, opcodesWithA, and_comm]

theorem exists_decode_eq_ok {w : Word} : (∃ i, decode w = .ok i) ↔ Decodes w := by
  simp only [decode_eq_ok, exists_and_left, Decodes]
  by_cases h : opcField w ∈ assignedOpcodes
  · simp [h, exists_decodeOpcode_eq_ok_of_mem h]
  · simp [h, decodeOpcode_of_notMem h]

/-! ### R83's conditions and the opcode table -/

theorem mem_assignedOpcodes {opc : Byte} :
    opc ∈ assignedOpcodes ↔ ∃ row ∈ opcodeTable, opcField row.pattern = opc := by
  have column : assignedOpcodes = opcodeTable.map fun row => opcField row.pattern := by decide
  rw [column, List.mem_map]

/-- No two rows of R84 share an opcode, and no two a mnemonic. -/
theorem opcField_eq_iff_mnemonic_eq :
    ∀ row ∈ opcodeTable, ∀ row' ∈ opcodeTable,
      opcField row.pattern = opcField row'.pattern ↔ row.mnemonic = row'.mnemonic := by
  decide

/-- The bits of A that R84's masks fix, by opcode. -/
def fixedBitsOfA (opc : Byte) : Byte :=
  if opc = 0x50#8 then 0xFC#8 else if opc ∈ opcodesWithA then 0#8 else BitVec.allOnes 8

/-- The bits of B that R84's masks fix, by opcode. -/
def fixedBitsOfB (opc : Byte) : Byte := if opc = 0x08#8 then 0#8 else BitVec.allOnes 8

theorem and_fixedBitsOfA_eq_zero {opc a : Byte} :
    a &&& fixedBitsOfA opc = 0#8 ↔
      (opc ∉ opcodesWithA → a = 0#8) ∧ (opc = 0x50#8 → a.extractLsb' 2 6 = 0#6) := by
  have high_bits : ∀ a : Byte, a &&& 0xFC#8 = 0#8 ↔ a.extractLsb' 2 6 = 0#6 := by decide +kernel
  have msgStart_mem : 0x50#8 ∈ opcodesWithA := by decide
  unfold fixedBitsOfA
  split
  · next h => simp [h, msgStart_mem, high_bits]
  · next h =>
    split
    · next hmem => simp [h, hmem]
    · next hmem => rw [BitVec.and_allOnes]; simp [h, hmem]

theorem and_fixedBitsOfB_eq_zero {opc b : Byte} : b &&& fixedBitsOfB opc = 0#8 ↔ (opc ≠ 0x08#8 → b = 0#8) := by
  unfold fixedBitsOfB
  split
  · next h => simp [h]
  · next h => rw [BitVec.and_allOnes]; simp [h]

/-- The match column of R84 is the opcode alone, and the mask column fixes OPC, RSV and the unused bits. -/
theorem opcodeTable_columns :
    ∀ row ∈ opcodeTable,
      (aField row.pattern = 0#8 ∧ bField row.pattern = 0#8 ∧ rsvField row.pattern = 0#8) ∧
      opcField row.mask = BitVec.allOnes 8 ∧ aField row.mask = fixedBitsOfA (opcField row.pattern) ∧
      bField row.mask = fixedBitsOfB (opcField row.pattern) ∧ rsvField row.mask = BitVec.allOnes 8 := by
  decide

/-- A word matches a row of R84 exactly when it has the row's opcode and meets R83's other conditions. -/
theorem matches_row_iff {row : OpcodeRow} (hrow : row ∈ opcodeTable) {w : Word} :
    w &&& row.mask = row.pattern ↔ opcField row.pattern = opcField w ∧ Decodes w := by
  obtain ⟨⟨ha, hb, hrsv⟩, hopcMask, haMask, hbMask, hrsvMask⟩ := opcodeTable_columns row hrow
  rw [and_eq_iff_fields, ha, hb, hrsv, hopcMask, haMask, hbMask, hrsvMask, BitVec.and_allOnes, BitVec.and_allOnes,
    eq_comm (a := opcField w)]
  refine and_congr_right fun hopc => ?_
  have assigned : opcField w ∈ assignedOpcodes := mem_assignedOpcodes.mpr ⟨row, hrow, hopc⟩
  rw [hopc, and_fixedBitsOfA_eq_zero, and_fixedBitsOfB_eq_zero, Decodes, UnusedBitsAreZero]
  tauto

theorem exists_matching_row_iff {w : Word} :
    (∃ row ∈ opcodeTable, opcField row.pattern = opcField w ∧ w &&& row.mask = row.pattern) ↔ Decodes w := by
  constructor
  · rintro ⟨row, hrow, -, hmatch⟩
    obtain ⟨-, hw⟩ := (matches_row_iff hrow).mp hmatch
    exact hw
  · intro hw
    have ⟨hassigned, _⟩ := hw
    obtain ⟨row, hrow, hopc⟩ := mem_assignedOpcodes.mp hassigned
    exact ⟨row, hrow, hopc, (matches_row_iff hrow).mpr ⟨hopc, hw⟩⟩

/-! ### The row of the command that a word decodes to -/

/-- A word that decodes is the word of its command, by the four forms of a row: no operand, A alone, GF_MUL's A and B,
and MSG_START's A. -/
theorem encode_of_decode {w : Word} {i : Instr} (h : decode w = .ok i) : encode i = w ∧ i.wf = true := by
  obtain ⟨hrsv, hdec⟩ := decode_eq_ok.mp h
  rw [← commandWord_fields hrsv]
  generalize opcField w = opc, aField w = a, bField w = b at hdec ⊢
  unfold decodeOpcode at hdec
  split at hdec
  case h_1 | h_2 | h_7 | h_8 | h_9 | h_10 | h_11 | h_12 | h_14 | h_15 | h_17 | h_19 | h_20 =>
    obtain ⟨rfl, rfl, rfl⟩ := plainForm_eq_ok.mp hdec
    exact ⟨rfl, rfl⟩
  case h_4 | h_5 | h_6 | h_13 | h_16 =>
    obtain ⟨rfl, rfl⟩ := oneByteForm_eq_ok.mp hdec
    exact ⟨rfl, rfl⟩
  case h_3 =>
    obtain rfl := Except.ok.inj hdec
    exact ⟨rfl, rfl⟩
  case h_18 =>
    obtain ⟨hreserved, rfl, rfl⟩ := msgStartForm_eq_ok.mp hdec
    exact ⟨rfl, decide_eq_true hreserved⟩
  case h_21 => cases hdec

/-- Every well-formed command's word matches the row of its mnemonic. -/
theorem encode_matches_row (i : Instr) : Laws.EncodeRow.Statement i := by
  cases i with
  | nop => exact Laws.EncodeRow.nop
  | clrErr => exact Laws.EncodeRow.clrErr
  | gfMul a b => exact Laws.EncodeRow.gfMul a b
  | sbox x => exact Laws.EncodeRow.sbox x
  | invSbox y => exact Laws.EncodeRow.invSbox y
  | keyExpand len => exact Laws.EncodeRow.keyExpand len
  | subBytes => exact Laws.EncodeRow.subBytes
  | invSubBytes => exact Laws.EncodeRow.invSubBytes
  | shiftRows => exact Laws.EncodeRow.shiftRows
  | invShiftRows => exact Laws.EncodeRow.invShiftRows
  | mixColumns => exact Laws.EncodeRow.mixColumns
  | invMixColumns => exact Laws.EncodeRow.invMixColumns
  | addRoundKey n => exact Laws.EncodeRow.addRoundKey n
  | encBlock => exact Laws.EncodeRow.encBlock
  | decBlock => exact Laws.EncodeRow.decBlock
  | padAdd n => exact Laws.EncodeRow.padAdd n
  | padCheck => exact Laws.EncodeRow.padCheck
  | msgStart a => exact Laws.EncodeRow.msgStart a
  | msgBlock => exact Laws.EncodeRow.msgBlock
  | msgAbort => exact Laws.EncodeRow.msgAbort

/-- Of R84's rows, a word that decodes matches the one with its command's mnemonic and no other. -/
theorem matches_row_iff_mnemonic {w : Word} {i : Instr} (h : decode w = .ok i) {row : OpcodeRow}
    (hrow : row ∈ opcodeTable) : w &&& row.mask = row.pattern ↔ row.mnemonic = i.mnemonic := by
  obtain ⟨rfl, hwf⟩ := encode_of_decode h
  obtain ⟨own, hown, hname, hadmits⟩ := encode_matches_row i hwf
  obtain ⟨hopc, hw⟩ := (matches_row_iff hown).mp (of_decide_eq_true hadmits)
  rw [matches_row_iff hrow, ← hopc, opcField_eq_iff_mnemonic_eq row hrow own hown, hname]
  exact and_iff_left hw

/-- Settles O6: both forms of R83 are `Decodes`, and the command's own row is the only one that matches. -/
theorem wordsDecodeByTheOpcodeTable : Obligations.WordsDecodeByTheOpcodeTable := fun _ =>
  ⟨exists_decode_eq_ok, exists_decode_eq_ok.trans exists_matching_row_iff.symm,
    fun _ h _ hrow => matches_row_iff_mnemonic h hrow⟩

/-! ### R85's list -/

/-- The opcodes that R84 leaves unassigned, as R85 lists them. -/
theorem notMem_assignedOpcodes {opc : Byte} :
    opc ∉ assignedOpcodes ↔
      (0x02 ≤ opc.toNat ∧ opc.toNat ≤ 0x07) ∨ (0x0B ≤ opc.toNat ∧ opc.toNat ≤ 0x0F) ∨
      (0x11 ≤ opc.toNat ∧ opc.toNat ≤ 0x1F) ∨ (0x27 ≤ opc.toNat ∧ opc.toNat ≤ 0x2F) ∨
      (0x32 ≤ opc.toNat ∧ opc.toNat ≤ 0x3F) ∨ (0x42 ≤ opc.toNat ∧ opc.toNat ≤ 0x4F) ∨
      (0x53 ≤ opc.toNat ∧ opc.toNat ≤ 0xFF) := by
  have hlt : opc.toNat < 256 := opc.isLt
  simp only [assignedOpcodes, List.mem_cons, List.not_mem_nil, or_false, BitVec.toNat_eq, BitVec.ofNat_eq_ofNat,
    BitVec.toNat_ofNat, Nat.reducePow, Nat.reduceMod]
  omega

/-- R85's list is the failure of one of R83's conditions. -/
theorem illegalWord_iff {w : Word} : IllegalWord w ↔ ¬ Decodes w := by
  have gfMul : (opcField w).toNat = 0x08 ↔ opcField w = 0x08#8 := BitVec.toNat_inj (y := 0x08#8)
  have msgStart : (opcField w).toNat = 0x50 ↔ opcField w = 0x50#8 := BitVec.toNat_inj (y := 0x50#8)
  simp only [IllegalWord, Decodes, UnusedBitsAreZero, not_and_or, Classical.not_imp, notMem_assignedOpcodes, or_assoc,
    gfMul, msgStart, ne_eq, BitVec.ofNat_eq_ofNat]

/-- With the gate open an illegal word only raises ILLEGAL_COMMAND; with it closed it is discarded (R85, R274). -/
theorem execute_of_not_decodes {w : Word} (h : ∀ i, decode w ≠ .ok i) (s : State) :
    execute w s = .next (if gateClosed s then s else raise .illegalCommand s) := by
  cases hg : gateClosed s with
  | true => simp [execute_closed hg, h]
  | false =>
    cases hd : decode w with
    | ok i => exact absurd hd (h i)
    | error e => simp [execute_open_error hg hd]

/-- Settles O5: R85's list is the failure of R83, and `execute_of_not_decodes` says what such a word does. -/
theorem illegalWordsRaiseIllegalCommand : Obligations.IllegalWordsRaiseIllegalCommand := by
  intro w
  have illegal_iff : IllegalWord w ↔ ∀ i, decode w ≠ .ok i := by
    rw [illegalWord_iff, ← exists_decode_eq_ok, not_exists]
  refine ⟨illegal_iff, fun hw s => ⟨fun hg => ?gateOpen, fun hg => ?gateClosed, busWrite_offset_idle .cmd w⟩⟩
  case gateOpen => rw [execute_of_not_decodes (illegal_iff.mp hw), hg]; rfl
  case gateClosed => rw [execute_of_not_decodes (illegal_iff.mp hw), hg]; rfl

end Sys2Proof.Machine
end

section
/-! PROOF. The control commands NOP and CLR_ERR (40_control.md R102, R103). Both have one word, so one lemma about words
without operands gives their illegal forms; NOP's example runs through the bus; that only CLR_ERR and reset reopen the
gate is a case analysis on the kinds of step. -/

namespace Sys2Proof.Machine

/-! ### The illegal words of an opcode -/

theorem fieldWord_eq_commandWord (opc a b : Byte) : fieldWord opc a b = commandWord opc a b := by
  ext i hi; simp [fieldWord, commandWord]; grind

/-- An opcode's legal words are known once the words of that opcode that decode are known. -/
theorem illegalUnless_of_decodes {opc : Byte} {ok : Word → Prop} (h : ∀ w, opcField w = opc → Decodes w → ok w) :
    IllegalUnless opc ok := by
  intro w s hopc hok hg
  have illegal : ∀ i, decode w ≠ .ok i := fun i hd => hok (h w hopc (exists_decode_eq_ok.mp ⟨i, hd⟩))
  rw [execute_of_not_decodes illegal, hg]
  rfl

/-- An opcode that uses no operand has one legal word. -/
theorem illegalUnless_plainWord {opc : Byte} (h : opc ∉ opcodesWithA) : IllegalUnless opc (PlainWord opc) := by
  refine illegalUnless_of_decodes fun w hopc hw => ?_
  obtain ⟨-, hrsv, hb, ha, -⟩ := hw
  have not_gfMul : opc ≠ 0x08#8 := by rintro rfl; exact h (by decide)
  rw [hopc] at ha hb
  rw [PlainWord, fieldWord_eq_commandWord, ← commandWord_fields hrsv, hopc, ha h, hb not_gfMul]
  rfl

/-! ### NOP -/

/-- NOP has no effect whether it is performed or discarded. -/
theorem execute_nop {w : Word} (hd : decode w = .ok .nop) (s : State) : execute w s = .next s := by
  cases hg : gateClosed s with
  | true => simp [execute_closed hg, hd]
  | false => rw [execute_open_ok hg hd]; rfl

/-- A CMD write to an idle core issues its word and is answered ok (R25). -/
theorem performEvent_write_cmd {s : State} (hb : s.busy = false) (w : Word) :
    performEvent (.write 0x008 32 w) s = .next (answer .ok (issue w s)) := by
  have write : busWrite 0x008 32 w s = issue w s := busWrite_offset_idle .cmd w hb
  have reply : busWriteReply 0x008 32 = .ok := busWriteReply_offset .cmd
  rw [performEvent, write, reply]

/-- The completion of a pending NOP only ends the completion. -/
theorem performEvent_complete_nop {s : State} (hb : s.busy = true) (hp : s.pending = 0x00000000) :
    performEvent .complete s = .next (retire s) := by
  rw [performEvent, if_pos hb, coreComplete, hp, execute_nop rfl]
  rfl

/-- Settles O11: `execute_nop` covers both sides of the gate, and the example is a CMD write and its completion. -/
theorem nopChangesNothing : Obligations.NopChangesNothing := by
  refine ⟨rfl, fun _ => rfl, illegalUnless_plainWord (by decide), execute_nop rfl, fun s hb _ => ⟨?write, ?complete⟩⟩
  case write => simp only [runEvents, performEvent_write_cmd hb]; rfl
  case complete =>
    have completion := performEvent_complete_nop (s := answer .ok (issue 0x00000000 s)) rfl rfl
    simp only [runEvents, performEvent_write_cmd hb, completion]
    rw [retire, ← hb]
    rfl

/-! ### CLR_ERR -/

theorem clearErrors_of_gateOpen {s : State} (he : s.err = .none) (ho : s.ovr = false) : clearErrors s = s := by
  cases s
  simp_all [clearErrors]

/-- A host write may set OVR and never clears it. -/
theorem busWrite_ovr {off size : Nat} {v : Word} {s : State} (h : s.ovr = true) :
    (busWrite off size v s).ovr = true := by
  obtain ⟨-, hw⟩ | ⟨r, -, -, hw⟩ | ⟨r, -, -, hw⟩ := busWrite_cases off size v s <;> rw [hw]
  · exact h
  · cases r <;> simp [writeReg, issue, h]

/-- No host write reopens the gate. -/
theorem gateClosed_busWrite {off size : Nat} {v : Word} {s : State} (h : gateClosed s = true) :
    gateClosed (busWrite off size v s) = true := by
  obtain ⟨-, -, -, herr⟩ := busWrite_keeps off size v s
  simp only [gateClosed, herr, Bool.or_eq_true] at h ⊢
  exact h.imp_right busWrite_ovr

/-- A completion reopens the gate only by CLR_ERR's word. -/
theorem pending_of_coreComplete_reopens {s t : State} (hs : gateClosed s = true) (h : coreComplete s = .next t)
    (ht : gateClosed t = false) : s.pending = 0x00000001 := by
  obtain ⟨u, hu, rfl⟩ := coreComplete_eq_next.mp h
  by_contra hp
  rw [execute_closed hs, if_neg (mt decode_eq_clrErr.mp hp)] at hu
  cases hu
  exact absurd (hs.symm.trans ht) (by decide)

/-- The gate is reopened by a reset or by the completion of CLR_ERR and by no other step. -/
theorem reset_or_clrErr_of_step_reopens {s t : State} (hs : gateClosed s = true) (h : step s = .next t)
    (ht : gateClosed t = false) :
    ResetIsNext s ∨ ∃ rest, CompletionIsNext s rest ∧ s.pending = 0x00000001 := by
  have reopens : gateClosed t ≠ true := by simp [ht]
  cases step_cases h with
  | idle _ _ hst => subst hst; exact absurd hs reopens
  | read _ _ _ _ hst => subst hst; exact absurd hs reopens
  | write off size v rest _ hst =>
    subst hst
    exact absurd (gateClosed_busWrite (s := { s with inputs := rest }) hs) reopens
  | reset rest hi _ => exact .inl ⟨rest, hi⟩
  | complete rest hi hb hc =>
    exact .inr ⟨rest, ⟨hb, hi⟩, pending_of_coreComplete_reopens (s := { s with inputs := rest }) hs hc ht⟩

/-- Settles O12: `execute_clrErr` covers both sides of the gate, and the steps that reopen it are found by the kinds of
step. -/
theorem clrErrReopensTheGate : Obligations.ClrErrReopensTheGate := by
  refine ⟨rfl, fun _ => rfl, execute_clrErr rfl, illegalUnless_plainWord (by decide),
    fun w s _ hw hg => ?malformedClosed, fun s he ho => congrArg _ (clearErrors_of_gateOpen he ho),
    fun _ _ => reset_or_clrErr_of_step_reopens⟩
  case malformedClosed => rw [execute_closed hg, if_neg (mt decode_eq_clrErr.mp hw)]

end Sys2Proof.Machine
end

section
/-! PROOF. GF(2^8) and the S-box (41_galois_sbox.md R124, R127 to R131). gmul is additive in each factor and commutes
with xtime, and every byte is a XOR of powers of x (the iterates of xtime on 1): each law of the field is proved on the
powers of x and extended by additivity. -/

namespace Sys2Proof.Machine

/-! ### xtime and gmul as additive maps -/

/-- A conditional XOR is additive in the bit that it tests. -/
theorem ite_xor_bits {w : Nat} (x y : Bool) (p q t : BitVec w) :
    (if x ^^ y then p ^^^ q ^^^ t else p ^^^ q) = (if x then p ^^^ t else p) ^^^ (if y then q ^^^ t else q) := by
  have cancel : p ^^^ t ^^^ (q ^^^ t) = p ^^^ q := by
    rw [BitVec.xor_comm q, BitVec.xor_assoc, ← BitVec.xor_assoc t t, BitVec.xor_self, BitVec.zero_xor]
  cases x <;> cases y <;> grind

/-- A conditional XOR is additive in the term that it adds. -/
theorem ite_xor_terms {w : Nat} (x : Bool) (p q t u : BitVec w) :
    (if x then p ^^^ q ^^^ (t ^^^ u) else p ^^^ q) = (if x then p ^^^ t else p) ^^^ (if x then q ^^^ u else q) := by
  cases x <;> grind

theorem xtime_xor (a b : Byte) : xtime (a ^^^ b) = xtime a ^^^ xtime b := by
  simp only [xtime, BitVec.getLsbD_xor, BitVec.shiftLeft_xor_distrib, ite_xor_bits]

theorem gmulLoop_xor_right (n : Nat) (p q a b c : Byte) :
    gmulLoop n (p ^^^ q) a (b ^^^ c) = gmulLoop n p a b ^^^ gmulLoop n q a c := by
  induction n generalizing p q a b c with
  | zero => rfl
  | succ n ih =>
    simp only [gmulLoop, BitVec.ushiftRight_xor_distrib, BitVec.getLsbD_xor, ite_xor_bits, ih]

theorem gmulLoop_xor_left (n : Nat) (p q a b c : Byte) :
    gmulLoop n (p ^^^ q) (a ^^^ b) c = gmulLoop n p a c ^^^ gmulLoop n q b c := by
  induction n generalizing p q a b c with
  | zero => rfl
  | succ n ih => simp only [gmulLoop, xtime_xor, ite_xor_terms, ih]

theorem xtime_gmulLoop (n : Nat) (p a b : Byte) : gmulLoop n (xtime p) (xtime a) b = xtime (gmulLoop n p a b) := by
  induction n generalizing p a b with
  | zero => rfl
  | succ n ih => simp only [gmulLoop, ← ih, apply_ite xtime, xtime_xor]

theorem gmul_xor_right (a b c : Byte) : gmul a (b ^^^ c) = gmul a b ^^^ gmul a c := gmulLoop_xor_right 8 0 0 a b c

theorem gmul_xor_left (a b c : Byte) : gmul (a ^^^ b) c = gmul a c ^^^ gmul b c := gmulLoop_xor_left 8 0 0 a b c

theorem gmul_xtime_left (a b : Byte) : gmul (xtime a) b = xtime (gmul a b) := xtime_gmulLoop 8 0 a b

theorem gmul_zero_right (a : Byte) : gmul a 0 = 0 := by simpa using gmul_xor_right a 0 0

theorem gmul_zero_left (b : Byte) : gmul 0 b = 0 := by simpa using gmul_xor_left 0 0 b

/-! ### Bytes as XORs of powers of x -/

/-- The power `x^i` of the field, by repeated doubling of 1 (R123). -/
def powerOfX (i : Nat) : Byte := xtime^[i] 1

theorem powerOfX_eq_twoPow : ∀ i < 8, powerOfX i = BitVec.twoPow 8 i := by decide

/-- What holds of 0 and of x^0 .. x^7 and is kept by XOR holds of every byte: by induction on the number of low bits
that may be set, the top one of them being split off as a power of x. -/
theorem byte_xor_induction {P : Byte → Prop} (zero : P 0) (power : ∀ i < 8, P (powerOfX i))
    (xor : ∀ a b, P a → P b → P (a ^^^ b)) (a : Byte) : P a := by
  have low_bits : ∀ n ≤ 8, ∀ a : Byte, (∀ i, n ≤ i → a.getLsbD i = false) → P a := by
    intro n hn
    induction n with
    | zero =>
      intro a ha
      have : a = 0 := BitVec.eq_of_getLsbD_eq fun i _ => by simp [ha]
      exact this ▸ zero
    | succ n ih =>
      intro a ha
      cases htop : a.getLsbD n with
      | false =>
        exact ih (by omega) a fun i hi => (Nat.eq_or_lt_of_le hi).elim (fun h => h ▸ htop) (ha i)
      | true =>
        have rest : P (a ^^^ powerOfX n) := by
          refine ih (by omega) _ fun i hi => ?_
          rw [powerOfX_eq_twoPow n (by omega), BitVec.getLsbD_xor, BitVec.getLsbD_twoPow]
          obtain rfl | hi := Nat.eq_or_lt_of_le hi
          · simp [htop, show n < 8 by omega]
          · simp [ha i hi, show n ≠ i by omega]
        have recombined : a = a ^^^ powerOfX n ^^^ powerOfX n := by simp
        exact recombined ▸ xor _ _ rest (power n (by omega))
  exact low_bits 8 le_rfl a fun i hi => a.getLsbD_of_ge i hi

theorem gmul_one_left (a : Byte) : gmul 1 a = a := by
  induction a using byte_xor_induction with
  | zero => exact gmul_zero_right 1
  | power i hi => revert i; decide +kernel
  | xor a b ha hb => rw [gmul_xor_right, ha, hb]

/-- A factor x^i is i doublings of the product. -/
theorem gmul_powerOfX_left (i : Nat) (b : Byte) : gmul (powerOfX i) b = xtime^[i] b := by
  have semiconj : Function.Semiconj (gmul · b) xtime xtime := fun a => gmul_xtime_left a b
  calc gmul (powerOfX i) b = xtime^[i] (gmul 1 b) := semiconj.iterate_right i 1
    _ = xtime^[i] b := by rw [gmul_one_left]

/-! ### The field laws -/

theorem gmul_comm (a b : Byte) : gmul a b = gmul b a := by
  induction a using byte_xor_induction with
  | zero => rw [gmul_zero_left, gmul_zero_right]
  | xor a c ha hc => rw [gmul_xor_left, gmul_xor_right, ha, hc]
  | power i _ =>
    induction b using byte_xor_induction with
    | zero => rw [gmul_zero_left, gmul_zero_right]
    | xor b c hb hc => rw [gmul_xor_left, gmul_xor_right, hb, hc]
    | power j _ =>
      rw [gmul_powerOfX_left, gmul_powerOfX_left]
      exact Function.Commute.iterate_iterate_self xtime i j 1

theorem gmul_one_right (a : Byte) : gmul a 1 = a := by rw [gmul_comm, gmul_one_left]

theorem gmul_assoc (a b c : Byte) : gmul a (gmul b c) = gmul (gmul a b) c := by
  induction a using byte_xor_induction with
  | zero => simp only [gmul_zero_left]
  | xor a d ha hd => simp only [gmul_xor_left, ha, hd]
  | power i _ =>
    have semiconj : Function.Semiconj (gmul · c) xtime xtime := fun b => gmul_xtime_left b c
    rw [gmul_powerOfX_left, gmul_powerOfX_left]
    exact (semiconj.iterate_right i b).symm

/-- The inverse of the affine map of R128: it takes bit i to `z[i+2] ^ z[i+5] ^ z[i+7] ^ d[i]`, d = 0x05. -/
def affineInverse (z : Byte) : Byte := z.rotateRight 2 ^^^ z.rotateRight 5 ^^^ z.rotateRight 7 ^^^ 0x05#8

theorem affine_affineInverse : ∀ z : Byte, affine (affineInverse z) = z := by decide +kernel

/-- The byte that R128 makes the inverse of `a`, read back from the S-box table. That it is the inverse is
`gmul_fieldInverse`: one product for each entry, which checks the table against the field as well. -/
def fieldInverse (a : Byte) : Byte := affineInverse (sboxOf a)

theorem gmul_fieldInverse : ∀ a : Byte, a ≠ 0 → gmul a (fieldInverse a) = 1 := by decide +kernel

theorem eq_fieldInverse_of_gmul_eq_one {a b : Byte} (h : gmul a b = 1) : b = fieldInverse a := by
  have ha : a ≠ 0 := by
    rintro rfl
    rw [gmul_zero_left] at h
    exact absurd h (by decide)
  calc b = gmul (gmul a (fieldInverse a)) b := by rw [gmul_fieldInverse a ha, gmul_one_left]
    _ = gmul (fieldInverse a) (gmul a b) := by rw [gmul_comm a, gmul_assoc]
    _ = fieldInverse a := by rw [h, gmul_one_right]

/-! ### The product of the polynomials -/

/-- The XOR of the `f i` for which bit `i` of `b` is set, from the accumulator `p`: the common form of
`carrylessProduct` and `modulusMultiple`. -/
def xorOfBits (f : Nat → BitVec 16) (b : Byte) (p : BitVec 16) (is : List Nat) : BitVec 16 :=
  is.foldl (fun p i => if b.getLsbD i then p ^^^ f i else p) p

theorem xorOfBits_cons (f : Nat → BitVec 16) (b : Byte) (p : BitVec 16) (i : Nat) (is : List Nat) :
    xorOfBits f b p (i :: is) = xorOfBits f b (if b.getLsbD i then p ^^^ f i else p) is := rfl

theorem xorOfBits_xor_bits (f : Nat → BitVec 16) (b c : Byte) (p q : BitVec 16) (is : List Nat) :
    xorOfBits f (b ^^^ c) (p ^^^ q) is = xorOfBits f b p is ^^^ xorOfBits f c q is := by
  induction is generalizing p q with
  | nil => rfl
  | cons i is ih => simp only [xorOfBits_cons, BitVec.getLsbD_xor, ite_xor_bits, ih]

theorem xorOfBits_xor_terms (f g : Nat → BitVec 16) (b : Byte) (p q : BitVec 16) (is : List Nat) :
    xorOfBits (fun i => f i ^^^ g i) b (p ^^^ q) is = xorOfBits f b p is ^^^ xorOfBits g b q is := by
  induction is generalizing p q with
  | nil => rfl
  | cons i is ih => simp only [xorOfBits_cons, ite_xor_terms, ih]

theorem carrylessProduct_xor_right (a b c : Byte) :
    carrylessProduct a (b ^^^ c) = carrylessProduct a b ^^^ carrylessProduct a c :=
  xorOfBits_xor_bits (a.setWidth 16 <<< ·) b c 0 0 (List.range 8)

theorem carrylessProduct_xor_left (a b c : Byte) :
    carrylessProduct (a ^^^ b) c = carrylessProduct a c ^^^ carrylessProduct b c := by
  have terms (i : Nat) : (a ^^^ b).setWidth 16 <<< i = a.setWidth 16 <<< i ^^^ b.setWidth 16 <<< i := by
    rw [BitVec.setWidth_xor, BitVec.shiftLeft_xor_distrib]
  unfold carrylessProduct
  simp only [terms]
  exact xorOfBits_xor_terms _ _ c 0 0 (List.range 8)

theorem carrylessProduct_zero_right (a : Byte) : carrylessProduct a 0 = 0 := by
  simpa using carrylessProduct_xor_right a 0 0

theorem carrylessProduct_zero_left (b : Byte) : carrylessProduct 0 b = 0 := by
  simpa using carrylessProduct_xor_left 0 0 b

theorem modulusMultiple_xor (q r : Byte) : modulusMultiple (q ^^^ r) = modulusMultiple q ^^^ modulusMultiple r :=
  xorOfBits_xor_bits (0x11B#16 <<< ·) q r 0 0 (List.range 8)

/-- The polynomial `p` leaves the remainder `r` modulo 0x11B. -/
def ReducesTo (p : BitVec 16) (r : Byte) : Prop := ∃ q : Byte, p = modulusMultiple q ^^^ r.setWidth 16

theorem ReducesTo.zero : ReducesTo 0 0 := ⟨0, rfl⟩

theorem ReducesTo.xor {p p' : BitVec 16} {r r' : Byte} (h : ReducesTo p r) (h' : ReducesTo p' r') :
    ReducesTo (p ^^^ p') (r ^^^ r') := by
  obtain ⟨q, rfl⟩ := h
  obtain ⟨q', rfl⟩ := h'
  exact ⟨q ^^^ q', by rw [modulusMultiple_xor, BitVec.setWidth_xor]; grind⟩

/-- The quotient by 0x11B of a polynomial of degree at most 14. -/
def quotientByModulus (p : BitVec 16) : Byte := (p >>> 8 ^^^ p >>> 12 ^^^ p >>> 13).setWidth 8

/-- The 64 products of two powers of x. -/
theorem carrylessProduct_powerOfX :
    ∀ i < 8, ∀ j < 8,
      carrylessProduct (powerOfX i) (powerOfX j) =
        modulusMultiple (quotientByModulus (carrylessProduct (powerOfX i) (powerOfX j))) ^^^
          (gmul (powerOfX i) (powerOfX j)).setWidth 16 := by
  decide +kernel

theorem carrylessProduct_reducesTo_gmul (a b : Byte) : ReducesTo (carrylessProduct a b) (gmul a b) := by
  induction a using byte_xor_induction with
  | zero => rw [carrylessProduct_zero_left, gmul_zero_left]; exact .zero
  | xor a c ha hc => rw [carrylessProduct_xor_left, gmul_xor_left]; exact ha.xor hc
  | power i hi =>
    induction b using byte_xor_induction with
    | zero => rw [carrylessProduct_zero_right, gmul_zero_right]; exact .zero
    | xor b c hb hc => rw [carrylessProduct_xor_right, gmul_xor_right]; exact hb.xor hc
    | power j hj => exact ⟨_, carrylessProduct_powerOfX i hi j hj⟩

/-- Settles O16: the field laws above, and `fieldInverse` as the one inverse of a nonzero byte. -/
theorem gmulIsFieldMultiplication : Obligations.GmulIsFieldMultiplication :=
  ⟨gmul_comm, fun a => ⟨gmul_zero_right a, gmul_one_right a⟩, gmul_xor_right, carrylessProduct_reducesTo_gmul,
    gmul_assoc, fun a ha => ⟨fieldInverse a, gmul_fieldInverse a ha, fun _ => eq_fieldInverse_of_gmul_eq_one⟩⟩

/-! ### The S-box tables -/

theorem getLsbD_rotateRight_byte (y : Byte) {i r : Nat} (hi : i < 8) (hr : r < 8) :
    (y.rotateRight r).getLsbD i = y.getLsbD ((i + r) % 8) := by
  rw [BitVec.getLsbD_rotateRight, Nat.mod_eq_of_lt hr]
  by_cases h : i < 8 - r
  · rw [Nat.mod_eq_of_lt (by omega : i + r < 8)]; simp [h, Nat.add_comm]
  · rw [show (i + r) % 8 = i - (8 - r) by omega]; simp [h, hi]

theorem getLsbD_affine (y : Byte) {i : Nat} (hi : i < 8) :
    (affine y).getLsbD i =
      (y.getLsbD i ^^ y.getLsbD ((i + 4) % 8) ^^ y.getLsbD ((i + 5) % 8) ^^ y.getLsbD ((i + 6) % 8) ^^
        y.getLsbD ((i + 7) % 8) ^^ (0x63#8).getLsbD i) := by
  simp only [affine, BitVec.getLsbD_xor, getLsbD_rotateRight_byte y hi (by decide : 4 < 8),
    getLsbD_rotateRight_byte y hi (by decide : 5 < 8), getLsbD_rotateRight_byte y hi (by decide : 6 < 8),
    getLsbD_rotateRight_byte y hi (by decide : 7 < 8)]

/-- R128 for the table R125; by `gmul_fieldInverse` the byte under the affine map is the inverse. -/
theorem sboxOf_eq_affine_fieldInverse (x : Byte) : sboxOf x = affine (fieldInverse x) :=
  (affine_affineInverse (sboxOf x)).symm

/-- Settles O18: the entry is the affine map of `fieldInverse`, and an inverse is no other byte. -/
theorem sboxIsTheAffineOfTheInverse : Obligations.SboxIsTheAffineOfTheInverse := by
  refine ⟨fun y _ => getLsbD_affine y, by decide +kernel, fun x y h => ?_⟩
  rw [eq_fieldInverse_of_gmul_eq_one h]
  exact sboxOf_eq_affine_fieldInverse x

/-- The table R126 against R125, entry by entry. -/
theorem invSboxOf_sboxOf : Function.LeftInverse invSboxOf sboxOf := by
  unfold Function.LeftInverse; decide +kernel

theorem sboxOf_invSboxOf : Function.RightInverse invSboxOf sboxOf := by
  have finite : Finite Byte := Finite.of_injective BitVec.toFin fun _ _ => BitVec.eq_of_toFin_eq
  exact invSboxOf_sboxOf.rightInverse_of_surjective (Finite.surjective_of_injective invSboxOf_sboxOf.injective)

theorem sboxOf_ne_self : ∀ x : Byte, sboxOf x ≠ x := by decide +kernel

/-- Settles O17: InvS is a left inverse of S on a finite set, so S has every byte as an entry (R127). -/
theorem sboxTablesAreInverse : Obligations.SboxTablesAreInverse :=
  ⟨invSboxOf_sboxOf, sboxOf_invSboxOf, sboxOf_ne_self⟩

/-! ### The commands -/

theorem readReg_result_writeResult (v : Byte) (s : State) : readReg .result (writeResult v s) = v.setWidth 32 := rfl

/-- An opcode with the operand A alone has the 256 words with B = 0. -/
theorem illegalUnless_oneByteWord {opc : Byte} (h : opc ≠ 0x08#8) : IllegalUnless opc (OneByteWord opc) := by
  refine illegalUnless_of_decodes fun w hopc ⟨_, hrsv, hb, _⟩ => ⟨aField w, ?_⟩
  have fields := commandWord_fields hrsv
  rw [hopc, hb (hopc ▸ h)] at fields
  rw [fieldWord_eq_commandWord]
  exact fields.symm

/-- An opcode with both operands has every word with RSV = 0. -/
theorem illegalUnless_twoByteWord (opc : Byte) : IllegalUnless opc (fun w => ∃ a b, w = fieldWord opc a b) := by
  refine illegalUnless_of_decodes fun w hopc ⟨_, hrsv, _⟩ => ⟨aField w, bField w, ?_⟩
  rw [fieldWord_eq_commandWord, ← hopc, commandWord_fields hrsv]

theorem decode_fieldWord (opc a b : Byte) : decode (fieldWord opc a b) = decodeOpcode opc a b := by
  rw [fieldWord_eq_commandWord, decode_commandWord]

/-- Settles O13: GF_MUL writes `gmul a b` to RESULT, and the corner cases are laws of the field. -/
theorem gfMulWritesTheProduct : Obligations.GfMulWritesTheProduct := by
  refine ⟨fun a b => decode_fieldWord 0x08 a b, fun a b s => ⟨_, rfl, rfl, readReg_result_writeResult _ s⟩,
    illegalUnless_twoByteWord 0x08, fun a => ⟨gmul_zero_right a, gmul_zero_left a, gmul_one_left a⟩, gmul_comm,
    ?examples⟩
  case examples => decide +kernel

/-- Settles O14: SBOX writes the table's entry to RESULT, and its legal words are the 256 with B = 0. -/
theorem sboxWritesTheEntry : Obligations.SboxWritesTheEntry := by
  refine ⟨fun x => decode_fieldWord 0x09 x 0, fun x s => ⟨_, rfl, rfl, readReg_result_writeResult _ s⟩,
    illegalUnless_oneByteWord (by decide), ?examples⟩
  case examples => decide +kernel

/-- INV_SBOX after SBOX leaves the input of SBOX in RESULT (R127). -/
theorem exec_invSbox_of_exec_sbox {x : Byte} {s t : State} (h : exec (.sbox x) s = .next t) :
    exec (.invSbox t.result) t = .next { t with result := x } := by
  obtain rfl : writeResult (sboxOf x) s = t := by injection h
  change Host.Outcome.next (writeResult (invSboxOf (sboxOf x)) _) = _
  rw [invSboxOf_sboxOf x]
  rfl

/-- Settles O15: as SBOX, and `invSboxOf_sboxOf` undoes it. -/
theorem invSboxWritesTheEntry : Obligations.InvSboxWritesTheEntry := by
  refine ⟨fun y => decode_fieldWord 0x0A y 0, fun y s => ⟨_, rfl, rfl, readReg_result_writeResult _ s⟩,
    illegalUnless_oneByteWord (by decide), ?_, ?_, ?_, ?_, fun _ _ _ => exec_invSbox_of_exec_sbox⟩
  all_goals decide +kernel

end Sys2Proof.Machine
end

section
/-! PROOF. KEY_EXPAND (42_key_schedule.md R140 to R148). The loop of R144 only appends, so a word of the finished
schedule is the word that was appended at its place: the schedule meets R144's recurrence. It is made from the key's own
words, and these read no byte of KEY at or above the length. -/

namespace Sys2Proof.Machine

/-! ### R144's loop -/

@[simp] theorem length_growSchedule (nk count : Nat) (w : List Word) :
    (growSchedule nk count w).length = w.length + count := by
  induction count generalizing w with
  | zero => rfl
  | succ count ih => simp only [growSchedule, ih, List.length_append, List.length_singleton]; omega

/-- The words that the loop starts from stay at their places. -/
theorem getD_growSchedule_of_lt (nk count : Nat) {w : List Word} {i : Nat} (hi : i < w.length) :
    (growSchedule nk count w).getD i 0 = w.getD i 0 := by
  induction count generalizing w with
  | zero => rfl
  | succ count ih => rw [growSchedule, ih (by simp; omega), List.getD_append _ _ _ _ hi]

/-- Each appended word of the finished schedule, from the word before it and the one `nk` before it. -/
theorem getD_growSchedule_of_ge {nk count i : Nat} {w : List Word} (hnk : 0 < nk) (hw : nk ≤ w.length)
    (hi : w.length ≤ i) (hlt : i < w.length + count) :
    (growSchedule nk count w).getD i 0 =
      scheduleCore nk i ((growSchedule nk count w).getD (i - 1) 0) ^^^ (growSchedule nk count w).getD (i - nk) 0 := by
  induction count generalizing w with
  | zero => omega
  | succ count ih =>
    obtain rfl | hi := Nat.eq_or_lt_of_le hi
    · rw [getD_growSchedule_of_lt nk _ (by omega : w.length - 1 < w.length),
        getD_growSchedule_of_lt nk _ (by omega : w.length - nk < w.length), growSchedule,
        getD_growSchedule_of_lt nk _ (by simp), List.getD_append_right _ _ _ _ le_rfl]
      simp
    · exact ih (by simp; omega) (by simpa using hi) (by simp; omega)

theorem packWord_xor (a b c d e f g h : Byte) :
    packWord a b c d ^^^ packWord e f g h = packWord (a ^^^ e) (b ^^^ f) (c ^^^ g) (d ^^^ h) := by
  ext i hi; simp [packWord]; grind

/-- RotWord, SubWord and the round constant, byte by byte as R144 writes them. -/
theorem scheduleCore_eq (nk i : Nat) (t : Word) :
    scheduleCore nk i t =
      if i % nk = 0 then
        packWord (sboxOf (wordByte t 1) ^^^ rcon (i / nk)) (sboxOf (wordByte t 2)) (sboxOf (wordByte t 3))
          (sboxOf (wordByte t 0))
      else if nk = 8 ∧ i % 8 = 4 then
        packWord (sboxOf (wordByte t 0)) (sboxOf (wordByte t 1)) (sboxOf (wordByte t 2)) (sboxOf (wordByte t 3))
      else t := by
  have same_residue : (nk = 8 ∧ i % nk = 4) ↔ (nk = 8 ∧ i % 8 = 4) := and_congr_right fun h => by rw [h]
  simp [scheduleCore, subWord, rotWord, packWord_xor, same_residue]

/-! ### The key's own words -/

@[simp] theorem length_keyWordsOf (key : Vector Byte 32) (len : Nat) : (keyWordsOf key len).length = len / 4 := by
  simp [keyWordsOf]

theorem getD_keyWordsOf (key : Vector Byte 32) {len i : Nat} (hi : i < len / 4) :
    (keyWordsOf key len).getD i 0 = regWord key i := by
  simp [keyWordsOf, hi]

/-- R148: KEY's bytes at and above the length are ignored. -/
theorem keyWordsOf_congr {key key' : Vector Byte 32} {len : Nat}
    (h : ∀ i < len, key.getD i 0 = key'.getD i 0) : keyWordsOf key len = keyWordsOf key' len := by
  refine List.map_congr_left fun j hj => ?_
  have hj : j < len / 4 := List.mem_range.mp hj
  simp only [regWord, h (4 * j) (by omega), h (4 * j + 1) (by omega), h (4 * j + 2) (by omega),
    h (4 * j + 3) (by omega)]

/-! ### The schedule and its store -/

theorem length_keyExpansion {r : Rounds} {keyWords : List Word} (h : keyWords.length ≤ 4 * (r.count + 1)) :
    (keyExpansion r keyWords).length = 4 * (r.count + 1) := by
  simp only [keyExpansion, length_growSchedule]; omega

theorem isSchedule_keyExpansion (r : Rounds) (key : Vector Byte 32) {len : Nat} (hlen : 4 ≤ len) :
    IsSchedule (len / 4) r.count key fun i => (keyExpansion r (keyWordsOf key len)).getD i 0 := by
  constructor
  · intro i hi
    calc (keyExpansion r (keyWordsOf key len)).getD i 0
      _ = (keyWordsOf key len).getD i 0 := getD_growSchedule_of_lt _ _ (by simpa using hi)
      _ = regWord key i := getD_keyWordsOf key hi
  · intro i hi hlt
    have recurrence := getD_growSchedule_of_ge (nk := len / 4) (count := 4 * (r.count + 1) - len / 4)
      (w := keyWordsOf key len) (i := i) (by omega) (by simp) (by simpa using hi) (by simp; omega)
    simp only [keyExpansion, length_keyWordsOf]
    rw [recurrence, BitVec.xor_comm, scheduleCore_eq]

/-- R146: the words of the schedule, and zero beyond them. -/
theorem storeOf_of_length {w : List Word} {n : Nat} (h : w.length = n) :
    storeOf w = Vector.ofFn fun i => if i.val < n then w.getD i.val 0 else 0 := by
  unfold storeOf
  congr 1
  funext i
  split
  · rfl
  · exact List.getD_eq_default _ _ (by omega)

/-! ### The command -/

theorem roundsOfLength_of_keyLength {n : Nat} (h : KeyLength n) :
    ∃ r, roundsOfLength n = some r ∧ r.count = n / 4 + 6 := by
  obtain rfl | rfl | rfl := h <;> exact ⟨_, rfl, rfl⟩

theorem roundsOfLength_of_not_keyLength {n : Nat} (h : ¬ KeyLength n) : roundsOfLength n = none := by
  simp only [KeyLength, not_or] at h
  simp [roundsOfLength, h]

theorem exec_keyExpand_of_msgActive {len : Byte} {s : State} (hm : s.msgActive = true) :
    exec (.keyExpand len) s = .next (raise .sequence s) := by
  simp [exec, execKeyExpand, hm]

theorem exec_keyExpand_of_badLength {len : Byte} {s : State} (hm : s.msgActive = false)
    (hlen : ¬ KeyLength len.toNat) :
    exec (.keyExpand len) s = .next (raise .invalidKeyLength (dropSchedule s)) := by
  simp [exec, execKeyExpand, hm, roundsOfLength_of_not_keyLength hlen]

theorem exec_keyExpand_of_rounds {len : Byte} {s : State} {r : Rounds} (hm : s.msgActive = false)
    (hr : roundsOfLength len.toNat = some r) :
    exec (.keyExpand len) s =
      .next (holdSchedule r (storeOf (keyExpansion r (keyWordsOf s.key len.toNat))) s) := by
  simp [exec, execKeyExpand, hm, hr]

/-- The accepted lengths: the store is filled from a schedule that meets R144's recurrence (R147). -/
theorem exec_keyExpand_of_keyLength {len : Byte} {s : State} (hm : s.msgActive = false)
    (hlen : KeyLength len.toNat) :
    ∃ (r : Rounds) (w : Nat → Word),
      r.count = len.toNat / 4 + 6 ∧ IsSchedule (len.toNat / 4) r.count s.key w ∧
      exec (.keyExpand len) s =
        .next (holdSchedule r (Vector.ofFn fun i => if i.val < 4 * (r.count + 1) then w i.val else 0) s) := by
  obtain ⟨r, hr, hcount⟩ := roundsOfLength_of_keyLength hlen
  have four_le : 4 ≤ len.toNat := by unfold KeyLength at hlen; omega
  have words : (keyExpansion r (keyWordsOf s.key len.toNat)).length = 4 * (r.count + 1) :=
    length_keyExpansion (by simp; omega)
  refine ⟨r, _, hcount, isSchedule_keyExpansion r s.key four_le, ?_⟩
  rw [exec_keyExpand_of_rounds hm hr, storeOf_of_length words]

/-! ### The example of R147 -/

/-- A KEY whose first 16 bytes are the key of R147's example (V-KS-1). -/
def exampleKey : Vector Byte 32 :=
  Vector.ofFn fun k => (hexBlock 0x2b7e151628aed2a6abf7158809cf4f3c).getD k.val 0

theorem getD_exampleKey :
    ∀ k : Fin 16, exampleKey.getD k.val 0 = (hexBlock 0x2b7e151628aed2a6abf7158809cf4f3c).get k := by
  decide +kernel

theorem exampleKey_schedule :
    (storeOf (keyExpansion .ten (keyWordsOf exampleKey 16)))[4] = 0xa0fafe17 ∧
      (storeOf (keyExpansion .ten (keyWordsOf exampleKey 16)))[43] = 0xb6630ca6 := by
  decide +kernel

/-- The example for every KEY that begins with those 16 bytes. -/
theorem exec_keyExpand_example {s : State} (hm : s.msgActive = false)
    (hkey : ∀ k : Fin 16, s.key.getD k.val 0 = (hexBlock 0x2b7e151628aed2a6abf7158809cf4f3c).get k) :
    ∃ t, exec (.keyExpand 16) s = .next t ∧ t.nr = .ten ∧ t.keyValid = true ∧
      readReg (.rkw 4) t = 0xa0fafe17 ∧ readReg (.rkw 43) t = 0xb6630ca6 := by
  have keyWords : keyWordsOf s.key 16 = keyWordsOf exampleKey 16 :=
    keyWordsOf_congr fun i hi => (hkey ⟨i, hi⟩).trans (getD_exampleKey ⟨i, hi⟩).symm
  have runs : exec (.keyExpand 16) s =
      .next (holdSchedule .ten (storeOf (keyExpansion .ten (keyWordsOf exampleKey 16))) s) :=
    keyWords ▸ exec_keyExpand_of_rounds hm rfl
  exact ⟨_, runs, rfl, rfl, exampleKey_schedule⟩

/-! ### The obligations -/

/-- Settles O19: one law of KEY_EXPAND for each outcome of R147's two checks, the schedule's recurrence coming from
`isSchedule_keyExpansion`. -/
theorem keyExpandBuildsTheSchedule : Obligations.KeyExpandBuildsTheSchedule := by
  refine ⟨fun len => decode_fieldWord 0x10 len 0, fun _ _ => exec_keyExpand_of_msgActive,
    fun _ _ => exec_keyExpand_of_badLength, fun _ _ => exec_keyExpand_of_keyLength,
    illegalUnless_oneByteWord (by decide), ?badLengths, fun _ => exec_keyExpand_example⟩
  case badLengths => unfold KeyLength; decide

/-- Settles O20: both runs hold the schedule of the same key words. -/
theorem scheduleDependsOnTheKeyAlone : Obligations.ScheduleDependsOnTheKeyAlone := by
  intro len s u t v hkey hs hu hms hmu hlen
  obtain ⟨r, hr, -⟩ := roundsOfLength_of_keyLength hlen
  rw [exec_keyExpand_of_rounds hms hr] at hs
  rw [exec_keyExpand_of_rounds hmu hr, ← keyWordsOf_congr hkey] at hu
  cases hs
  cases hu
  exact ⟨rfl, rfl, rfl⟩

end Sys2Proof.Machine
end

section
/-! PROOF. The round transforms (43_round_transforms.md R160 to R176). Each transform is read entry by entry, so that
the laws between them are laws between entries. MixColumns, its inverse and the doubling step are each a multiplication
by a circulant matrix; the product of two of these is the one whose coefficients are the circular convolution of
theirs, so R166's and R168's laws of them are equations between coefficients. -/

namespace Sys2Proof.Machine

/-! ### Reading a block by its entries -/

/-- Rows and columns are taken modulo 4. -/
theorem entry_congr (b : Block) {r r' c c' : Nat} (hr : r % 4 = r' % 4) (hc : c % 4 = c' % 4) :
    entry b r c = entry b r' c' := by
  simp only [entry, hr, hc]

@[simp] theorem entry_row_add_four (b : Block) (r c : Nat) : entry b (r + 4) c = entry b r c :=
  entry_congr b (by omega) rfl

theorem getD_eq_entry (b : Block) {r c : Nat} (hr : r < 4) (hc : c < 4) : b.getD (4 * c + r) 0 = entry b r c := by
  have hlt : 4 * c + r < 16 := by omega
  calc b.getD (4 * c + r) 0
    _ = b[4 * c + r] := by simp [Vector.getD, hlt]
    _ = entry b ((4 * c + r) % 4) ((4 * c + r) / 4) := (entry_of_index b _ hlt).symm
    _ = entry b r c := entry_congr b (by omega) (by omega)

theorem entry_ofEntries_of_lt (f : Nat → Nat → Byte) {r c : Nat} (hr : r < 4) (hc : c < 4) :
    entry (ofEntries f) r c = f r c := by
  rw [entry_ofEntries, Nat.mod_eq_of_lt hr, Nat.mod_eq_of_lt hc]

/-! ### SubBytes and its inverse -/

theorem entry_subBytes (b : Block) (r c : Nat) : entry (subBytes b) r c = sboxOf (entry b r c) := by
  simp [entry, subBytes]

theorem invSubBytes_subBytes (b : Block) : invSubBytes (subBytes b) = b := by
  rw [invSubBytes, subBytes, Vector.map_map, invSboxOf_sboxOf.comp_eq_id, Vector.map_id]

theorem subBytes_invSubBytes (b : Block) : subBytes (invSubBytes b) = b := by
  rw [invSubBytes, subBytes, Vector.map_map, sboxOf_invSboxOf.comp_eq_id, Vector.map_id]

/-! ### ShiftRows and its inverse -/

theorem entry_shiftRows (b : Block) (r c : Nat) : entry (shiftRows b) r c = entry b r (c + r) := by
  rw [shiftRows, entry_ofEntries]
  exact entry_congr b (by omega) (by omega)

theorem entry_invShiftRows (b : Block) {r : Nat} (hr : r < 4) (c : Nat) :
    entry (invShiftRows b) r c = entry b r (c + 4 - r) := by
  rw [invShiftRows, entry_ofEntries]
  exact entry_congr b (by omega) (by omega)

theorem invShiftRows_shiftRows (b : Block) : invShiftRows (shiftRows b) = b := by
  refine block_ext_entries fun r hr c _ => ?_
  rw [entry_invShiftRows _ hr, entry_shiftRows]
  exact entry_congr b rfl (by omega)

theorem shiftRows_invShiftRows (b : Block) : shiftRows (invShiftRows b) = b := by
  refine block_ext_entries fun r hr c _ => ?_
  rw [entry_shiftRows, entry_invShiftRows _ hr]
  exact entry_congr b rfl (by omega)

theorem subBytes_shiftRows (b : Block) : subBytes (shiftRows b) = shiftRows (subBytes b) := by
  refine block_ext_entries fun r _ c _ => ?_
  rw [entry_subBytes, entry_shiftRows, entry_shiftRows, entry_subBytes]

/-! ### Multiplication of the columns by a circulant matrix -/

/-- `gmul_one_left` in the spelling of constants that `simp` uses. -/
@[simp] theorem one_gmul (a : Byte) : gmul 1#8 a = a := gmul_one_left a

/-- `gmul_zero_left` in the spelling of constants that `simp` uses. -/
@[simp] theorem zero_gmul (a : Byte) : gmul 0#8 a = 0#8 := gmul_zero_left a

theorem entry_mixWith (co : Nat → Byte) (b : Block) {r c : Nat} (hr : r < 4) (hc : c < 4) :
    entry (mixWith co b) r c =
      gmul (co (4 - r)) (entry b 0 c) ^^^ gmul (co (5 - r)) (entry b 1 c) ^^^ gmul (co (6 - r)) (entry b 2 c)
        ^^^ gmul (co (7 - r)) (entry b 3 c) :=
  entry_ofEntries_of_lt _ hr hc

/-- Only the coefficients 1 to 7 are read. -/
theorem mixWith_congr {f g : Nat → Byte} (h : ∀ i < 8, f i = g i) (b : Block) : mixWith f b = mixWith g b := by
  refine block_ext_entries fun r hr c hc => ?_
  rw [entry_mixWith f b hr hc, entry_mixWith g b hr hc, h (4 - r) (by omega), h (5 - r) (by omega),
    h (6 - r) (by omega), h (7 - r) (by omega)]

/-- The coefficients of the product of two circulant matrices: the circular convolution of their coefficients. -/
def circulantProduct (f g : Nat → Byte) (i : Nat) : Byte :=
  gmul (f 0) (g i) ^^^ gmul (f 1) (g (i + 3)) ^^^ gmul (f 2) (g (i + 2)) ^^^ gmul (f 3) (g (i + 1))

/-- Multiplying by two circulant matrices in turn is multiplying by their product: with gmul distributed over the
sums, both sides have the same sixteen terms. -/
theorem mixWith_mixWith {f g : Nat → Byte} (hf : Function.Periodic f 4) (hg : Function.Periodic g 4) (b : Block) :
    mixWith f (mixWith g b) = mixWith (circulantProduct f g) b := by
  refine block_ext_entries fun r hr c hc => ?_
  have row {k : Nat} (hk : k < 4) := entry_mixWith g b hk hc
  rw [entry_mixWith f _ hr hc, entry_mixWith _ b hr hc, row (by decide : 0 < 4), row (by decide : 1 < 4),
    row (by decide : 2 < 4), row (by decide : 3 < 4)]
  have fold_f (i : Nat) : f (i + 4) = f i := hf i
  have fold_g (i : Nat) : g (i + 4) = g i := hg i
  interval_cases r <;>
    simp only [circulantProduct, gmul_xor_left, gmul_xor_right, gmul_assoc, fold_f, fold_g,
      Nat.reduceAdd, Nat.reduceSub, Nat.sub_zero] <;>
    ac_rfl

/-- The coefficients of the identity matrix. -/
def identityCoeff (i : Nat) : Byte := if i % 4 = 0 then 1 else 0

theorem mixWith_identityCoeff (b : Block) : mixWith identityCoeff b = b := by
  refine block_ext_entries fun r hr c hc => ?_
  rw [entry_mixWith _ b hr hc]
  interval_cases r <;> simp [identityCoeff]

/-- A column of four equal bytes is unchanged when the coefficients sum to 1. -/
theorem entry_mixWith_of_equal_bytes {co : Nat → Byte}
    (hsum : ∀ r < 4, co (4 - r) ^^^ co (5 - r) ^^^ co (6 - r) ^^^ co (7 - r) = 1) {b : Block} {c : Nat} {x : Byte}
    (hc : c < 4) (hx : ∀ r < 4, entry b r c = x) {r : Nat} (hr : r < 4) : entry (mixWith co b) r c = x := by
  rw [entry_mixWith co b hr hc, hx 0 (by decide), hx 1 (by decide), hx 2 (by decide), hx 3 (by decide)]
  simp only [← gmul_xor_left, hsum r hr, gmul_one_left]

/-- `entry_mixWith` on the bytes of the column. -/
theorem getD_mixWith (co : Nat → Byte) (b : Block) {r c : Nat} (hr : r < 4) (hc : c < 4) :
    (mixWith co b).getD (4 * c + r) 0 =
      gmul (co (4 - r)) (b.getD (4 * c) 0) ^^^ gmul (co (5 - r)) (b.getD (4 * c + 1) 0)
        ^^^ gmul (co (6 - r)) (b.getD (4 * c + 2) 0) ^^^ gmul (co (7 - r)) (b.getD (4 * c + 3) 0) := by
  have byte {k : Nat} (hk : k < 4) := getD_eq_entry b hk hc
  have byte0 : b.getD (4 * c) 0 = entry b 0 c := byte (by decide : 0 < 4)
  rw [getD_eq_entry _ hr hc, entry_mixWith co b hr hc, byte0, byte (by decide : 1 < 4),
    byte (by decide : 2 < 4), byte (by decide : 3 < 4)]

/-! ### MixColumns, its inverse and the doubling step -/

theorem periodic_mixCoeff : Function.Periodic mixCoeff 4 := fun i => by simp [mixCoeff]

theorem periodic_invMixCoeff : Function.Periodic invMixCoeff 4 := fun i => by simp [invMixCoeff]

theorem invMixColumns_mixColumns (b : Block) : invMixColumns (mixColumns b) = b := by
  have product : ∀ i < 8, circulantProduct invMixCoeff mixCoeff i = identityCoeff i := by decide
  rw [invMixColumns, mixColumns, mixWith_mixWith periodic_invMixCoeff periodic_mixCoeff, mixWith_congr product,
    mixWith_identityCoeff]

theorem mixColumns_invMixColumns (b : Block) : mixColumns (invMixColumns b) = b := by
  have product : ∀ i < 8, circulantProduct mixCoeff invMixCoeff i = identityCoeff i := by decide
  rw [invMixColumns, mixColumns, mixWith_mixWith periodic_mixCoeff periodic_invMixCoeff, mixWith_congr product,
    mixWith_identityCoeff]

/-- The coefficients of the doubling step: 5 for the byte itself, 4 for the byte two rows on. -/
def doubleCoeff (i : Nat) : Byte :=
  match i % 4 with
  | 0 => 5
  | 2 => 4
  | _ => 0

theorem periodic_doubleCoeff : Function.Periodic doubleCoeff 4 := fun i => by simp [doubleCoeff]

theorem entry_doubleColumns (b : Block) {r c : Nat} (hr : r < 4) (hc : c < 4) :
    entry (doubleColumns b) r c = entry b r c ^^^ xtime (xtime (entry b r c ^^^ entry b (r + 2) c)) :=
  entry_ofEntries_of_lt _ hr hc

/-- Two doublings are a multiplication by 4, so the step adds 4 times the pair's sum. -/
theorem xor_xtime_xtime_xor (x y : Byte) : x ^^^ xtime (xtime (x ^^^ y)) = gmul 5 x ^^^ gmul 4 y := by
  have quadruple (z : Byte) : xtime (xtime z) = gmul 4 z := (gmul_powerOfX_left 2 z).symm
  have quintuple : gmul 5 x = x ^^^ gmul 4 x := by
    calc gmul 5 x = gmul 1 x ^^^ gmul 4 x := gmul_xor_left 1 4 x
      _ = x ^^^ gmul 4 x := by rw [gmul_one_left]
  rw [quadruple, gmul_xor_right, quintuple, BitVec.xor_assoc]

theorem doubleColumns_eq_mixWith (b : Block) : doubleColumns b = mixWith doubleCoeff b := by
  refine block_ext_entries fun r hr c hc => ?_
  rw [entry_doubleColumns b hr hc, entry_mixWith _ b hr hc, xor_xtime_xtime_xor]
  interval_cases r <;> simp [doubleCoeff, BitVec.xor_comm]

theorem invMixColumns_eq_mixColumns_doubleColumns (b : Block) :
    invMixColumns b = mixColumns (doubleColumns b) := by
  have product : ∀ i < 8, circulantProduct mixCoeff doubleCoeff i = invMixCoeff i := by decide
  rw [doubleColumns_eq_mixWith, mixColumns, mixWith_mixWith periodic_mixCoeff periodic_doubleCoeff,
    mixWith_congr product, invMixColumns]

/-! ### AddRoundKey -/

theorem entry_addRoundKey (b k : Block) (r c : Nat) :
    entry (addRoundKey b k) r c = entry b r c ^^^ entry k r c :=
  getElem_xorBlock ..

theorem addRoundKey_addRoundKey (b k : Block) : addRoundKey (addRoundKey b k) k = b := by
  refine block_ext_entries fun r _ c _ => ?_
  rw [entry_addRoundKey, entry_addRoundKey, BitVec.xor_assoc, BitVec.xor_self, BitVec.xor_zero]

/-! ### The laws of the transforms -/

/-- Settles O25: one law for each pair; those of MixColumns are the products of the two circulant matrices. -/
theorem roundTransformsHaveInverses : Obligations.RoundTransformsHaveInverses := fun b k =>
  ⟨invSubBytes_subBytes b, subBytes_invSubBytes b, invShiftRows_shiftRows b, shiftRows_invShiftRows b,
    invMixColumns_mixColumns b, mixColumns_invMixColumns b, addRoundKey_addRoundKey b k, subBytes_shiftRows b⟩

/-- R166's vector of coefficients, written as a list. -/
theorem invMixCoeff_eq_getD (i : Nat) :
    invMixCoeff i = ([0x0E, 0x0B, 0x0D, 0x09] : List Byte).getD (i % 4) 0 := by
  have hi : i % 4 < 4 := Nat.mod_lt _ (by decide)
  unfold invMixCoeff
  interval_cases i % 4 <;> rfl

/-- Both rows of a pair are changed by the same doubled sum, taken from the upper row. -/
theorem entry_doubleColumns_pair (b : Block) {r c : Nat} (hr : r < 4) (hc : c < 4) :
    entry (doubleColumns b) r c =
      entry b r c ^^^ xtime (xtime (entry b (r % 2) c ^^^ entry b (r % 2 + 2) c)) := by
  rw [entry_doubleColumns b hr hc]
  interval_cases r <;> simp [BitVec.xor_comm]

/-- Settles O26: the doubling step is itself a circulant multiplication, and its product with MixColumns has R166's
coefficients. -/
theorem invMixColumnsFormsAgree : Obligations.InvMixColumnsFormsAgree := by
  refine fun b => ⟨fun r hr c hc => ?direct, fun r hr c hc => entry_doubleColumns_pair b hr hc,
    invMixColumns_eq_mixColumns_doubleColumns b⟩
  case direct =>
    rw [invMixColumns, entry_mixWith _ b hr hc]
    simp [List.range, List.range.loop, invMixCoeff_eq_getD]

/-! ### The commands without operands -/

/-- Settles O21: the commands write `subBytes` and `invSubBytes` of STATE, which are maps over its bytes. -/
theorem subBytesMapsEveryByte : Obligations.SubBytesMapsEveryByte := by
  refine ⟨rfl, rfl, fun s => ⟨_, rfl, fun k => ?sub⟩, fun s => ⟨_, rfl, fun k => ?invSub⟩,
    illegalUnless_plainWord (by decide), illegalUnless_plainWord (by decide), ?examples⟩
  case sub => exact Vector.getElem_map ..
  case invSub => exact Vector.getElem_map ..
  case examples => decide +kernel

/-- R163's indexes are its entries' places. -/
theorem shiftRowsIndex_getD : ∀ k < 16, shiftRowsIndex.getD k 0 = 4 * ((k / 4 + k % 4) % 4) + k % 4 := by decide

/-- R164's indexes are its entries' places. -/
theorem invShiftRowsIndex_getD : ∀ k < 16, invShiftRowsIndex.getD k 0 = 4 * ((k / 4 + 4 - k % 4) % 4) + k % 4 := by
  decide

theorem getD_shiftRows (b : Block) {r c : Nat} (hr : r < 4) (hc : c < 4) :
    (shiftRows b).getD (4 * c + r) 0 = b.getD (4 * ((c + r) % 4) + r) 0 := by
  rw [getD_eq_entry _ hr hc, getD_eq_entry _ hr (Nat.mod_lt _ (by decide)), entry_shiftRows, entry_mod_col]

theorem getD_invShiftRows (b : Block) {r c : Nat} (hr : r < 4) (hc : c < 4) :
    (invShiftRows b).getD (4 * c + r) 0 = b.getD (4 * ((c + 4 - r) % 4) + r) 0 := by
  rw [getD_eq_entry _ hr hc, getD_eq_entry _ hr (Nat.mod_lt _ (by decide)), entry_invShiftRows _ hr, entry_mod_col]

theorem shiftRows_of_equal_columns {b : Block} (h : ∀ r < 4, ∀ c < 4, entry b r c = entry b r 0) :
    shiftRows b = b := by
  refine block_ext_entries fun r hr c hc => ?_
  rw [entry_shiftRows, ← entry_mod_col, h r hr _ (Nat.mod_lt _ (by decide)), h r hr c hc]

/-- Row `r` has turned by `4 * r` columns. -/
theorem shiftRows_four_times (b : Block) : shiftRows (shiftRows (shiftRows (shiftRows b))) = b := by
  refine block_ext_entries fun r _ c _ => ?_
  simp only [entry_shiftRows]
  exact entry_congr b rfl (by omega)

/-- Settles O22: the entries of `shiftRows` and `invShiftRows`; the byte indexes are the entries' places. -/
theorem shiftRowsTurnsTheRows : Obligations.ShiftRowsTurnsTheRows := by
  refine ⟨rfl, rfl, fun s => ⟨_, rfl, fun r hr c hc => ?entries, fun k hk => ?bytes⟩,
    fun s => ⟨_, rfl, fun r hr c hc => ?invEntries, fun k hk => ?invBytes⟩,
    illegalUnless_plainWord (by decide), illegalUnless_plainWord (by decide),
    fun _ => shiftRows_of_equal_columns, shiftRows_four_times, ?examples⟩
  case entries => simpa only [Nat.add_comm] using getD_shiftRows s.state hr hc
  case invEntries => simpa only [Nat.add_comm] using getD_invShiftRows s.state hr hc
  case bytes =>
    rw [shiftRowsIndex_getD k hk]
    conv_lhs => rw [← Nat.div_add_mod k 4]
    exact getD_shiftRows s.state (by omega) (by omega)
  case invBytes =>
    rw [invShiftRowsIndex_getD k hk]
    conv_lhs => rw [← Nat.div_add_mod k 4]
    exact getD_invShiftRows s.state (by omega) (by omega)
  case examples => decide +kernel

/-- Settles O23: `getD_mixWith` gives each written-out row, the coefficient 1 of MixColumns being `gmul_one_left`. -/
theorem mixColumnsMultipliesTheColumns : Obligations.MixColumnsMultipliesTheColumns := by
  refine ⟨rfl, rfl, fun s => ⟨_, rfl, fun c hc => ?rows⟩, fun s => ⟨_, rfl, fun c hc => ?invRows⟩,
    illegalUnless_plainWord (by decide), illegalUnless_plainWord (by decide),
    fun b c x hc hx r hr =>
      ⟨entry_mixWith_of_equal_bytes (by decide) hc hx hr, entry_mixWith_of_equal_bytes (by decide) hc hx hr⟩,
    ?examples⟩
  case rows =>
    have row {r : Nat} (hr : r < 4) := getD_mixWith mixCoeff s.state hr hc
    refine ⟨(row (by decide : 0 < 4)).trans ?_, (row (by decide : 1 < 4)).trans ?_,
      (row (by decide : 2 < 4)).trans ?_, (row (by decide : 3 < 4)).trans ?_⟩ <;> simp [mixCoeff]
  case invRows =>
    have row {r : Nat} (hr : r < 4) := getD_mixWith invMixCoeff s.state hr hc
    refine ⟨(row (by decide : 0 < 4)).trans ?_, (row (by decide : 1 < 4)).trans ?_,
      (row (by decide : 2 < 4)).trans ?_, (row (by decide : 3 < 4)).trans ?_⟩ <;> simp [invMixCoeff]
  case examples => decide +kernel

/-! ### ADD_ROUND_KEY -/

theorem exec_addRoundKey_of_noKey {n : Byte} {s : State} (hk : s.keyValid = false) :
    exec (.addRoundKey n) s = .next (raise .noKey s) := by
  simp [exec, execAddRoundKey, hk]

theorem exec_addRoundKey_of_gt {n : Byte} {s : State} (hk : s.keyValid = true) (hn : n.toNat > s.nr.count) :
    exec (.addRoundKey n) s = .next (raise .badOperand s) := by
  simp [exec, execAddRoundKey, hk, hn]

theorem exec_addRoundKey_of_le {n : Byte} {s : State} (hk : s.keyValid = true) (hn : n.toNat ≤ s.nr.count) :
    exec (.addRoundKey n) s = .next (writeState (addRoundKey s.state (roundKey s.rkw n.toNat)) s) := by
  simp [exec, execAddRoundKey, hk, Nat.not_lt.mpr hn]

/-- The same round key twice restores STATE (R168). -/
theorem exec_addRoundKey_twice {n : Byte} {s : State} (hk : s.keyValid = true) (hn : n.toNat ≤ s.nr.count) :
    exec (.addRoundKey n) (writeState (addRoundKey s.state (roundKey s.rkw n.toNat)) s) = .next s := by
  rw [exec_addRoundKey_of_le (s := writeState (addRoundKey s.state _) s) hk hn]
  simp only [writeState_state, writeState_rkw, addRoundKey_addRoundKey]
  rfl

/-- R145: column `c` of a round key is its word `c`. -/
theorem entry_roundKey (w : Vector Word 60) (n : Nat) {r c : Nat} (hr : r < 4) (hc : c < 4) :
    entry (roundKey w n) r c = wordByte (w.getD (4 * n + c) 0) r := by
  have column : (r + 4 * c) / 4 = c := by omega
  have row : (r + 4 * c) % 4 = r := by omega
  simp [entry, roundKey, Nat.mod_eq_of_lt hr, Nat.mod_eq_of_lt hc, column, row]

theorem getD_addRoundKey_roundKey (b : Block) (w : Vector Word 60) (n : Nat) {j k : Nat} (hj : j < 4) (hk : k < 4) :
    (addRoundKey b (roundKey w n)).getD (4 * j + k) 0 =
      b.getD (4 * j + k) 0 ^^^ wordByte (w.getD (4 * n + j) 0) k := by
  rw [getD_eq_entry _ hk hj, getD_eq_entry _ hk hj, entry_addRoundKey, entry_roundKey w n hk hj]

/-- A round key whose four words are those of a 128-bit number is that number's block. -/
theorem roundKey_eq_hexBlock {w : Vector Word 60} {n : Nat} {v : BitVec 128}
    (h : ∀ j < 4, w.getD (4 * n + j) 0 = v.extractLsb' (96 - 32 * j) 32) : roundKey w n = hexBlock v := by
  refine block_ext_entries fun r hr c hc => ?_
  rw [entry_roundKey w n hr hc, h c hc, ← getD_eq_entry _ hr hc, getD_hexBlock v hc hr]

/-- The example of R176, from the words of the key. -/
theorem exec_addRoundKey_example {s : State} (hk : s.keyValid = true)
    (hs : s.state = hexBlock 0x3243f6a8885a308d313198a2e0370734) (h0 : s.rkw.getD 0 0 = 0x2b7e1516)
    (h1 : s.rkw.getD 1 0 = 0x28aed2a6) (h2 : s.rkw.getD 2 0 = 0xabf71588) (h3 : s.rkw.getD 3 0 = 0x09cf4f3c) :
    exec (.addRoundKey 0) s = .next (writeState (hexBlock 0x193de3bea0f4e22b9ac68d2ae9f84808) s) := by
  have key : roundKey s.rkw (0 : Byte).toNat = hexBlock 0x2b7e151628aed2a6abf7158809cf4f3c := by
    refine roundKey_eq_hexBlock fun j hj => ?_
    interval_cases j
    · exact h0
    · exact h1
    · exact h2
    · exact h3
  have sum : addRoundKey (hexBlock 0x3243f6a8885a308d313198a2e0370734) (hexBlock 0x2b7e151628aed2a6abf7158809cf4f3c) =
      hexBlock 0x193de3bea0f4e22b9ac68d2ae9f84808 := by decide +kernel
  rw [exec_addRoundKey_of_le hk (Nat.zero_le _), hs, key, sum]

theorem wordByte_regWord {n : Nat} (x : Vector Byte n) (j : Nat) {i : Nat} (hi : i < 4) :
    wordByte (regWord x j) i = x.getD (4 * j + i) 0 := by
  interval_cases i <;> simp [regWord]

/-- Round key 0 is the first 16 key bytes when the first four words are the key's own. -/
theorem getElem_roundKey_zero {w : Vector Word 60} {key : Vector Byte 32}
    (h : ∀ j < 4, w.getD j 0 = regWord key j) {k : Nat} (hk : k < 16) : (roundKey w 0)[k] = key.getD k 0 := by
  rw [← entry_of_index _ k hk, entry_roundKey w 0 (by omega) (by omega), Nat.mul_zero, Nat.zero_add,
    h _ (by omega), wordByte_regWord key _ (by omega), Nat.div_add_mod]

/-- After a KEY_EXPAND the first four words are the key's own, for every accepted length. -/
theorem exec_keyExpand_firstWords {len : Byte} {s : State} (hm : s.msgActive = false) (hlen : KeyLength len.toNat) :
    ∃ (r : Rounds) (w : Vector Word 60), exec (.keyExpand len) s = .next (holdSchedule r w s) ∧
      ∀ j < 4, w.getD j 0 = regWord s.key j := by
  obtain ⟨r, w, hcount, ⟨hkey, -⟩, hexec⟩ := exec_keyExpand_of_keyLength hm hlen
  have four_le : 4 ≤ len.toNat / 4 := by unfold KeyLength at hlen; omega
  refine ⟨r, _, hexec, fun j hj => ?_⟩
  have inStore : j < 60 := by omega
  have inSchedule : j < 4 * (r.count + 1) := by omega
  rw [← show w j = regWord s.key j from hkey j (by omega)]
  simp [Vector.getD, inStore, inSchedule]

/-- Settles O24: one law of ADD_ROUND_KEY for each outcome of R176's two checks; the corner cases are
`exec_addRoundKey_twice` and `getElem_roundKey_zero`. -/
theorem addRoundKeyXorsTheRoundKey : Obligations.AddRoundKeyXorsTheRoundKey := by
  refine ⟨fun n => decode_fieldWord 0x26 n 0, fun _ _ => exec_addRoundKey_of_noKey,
    fun _ _ => exec_addRoundKey_of_gt,
    fun n s hk hn => ⟨_, exec_addRoundKey_of_le hk hn,
      fun _ hj _ hk => getD_addRoundKey_roundKey s.state s.rkw n.toNat hj hk, exec_addRoundKey_twice hk hn⟩,
    illegalUnless_oneByteWord (by decide),
    fun s hk hs h0 h1 h2 h3 => ⟨by decide, exec_addRoundKey_example hk hs h0 h1 h2 h3⟩,
    fun len s hm hlen => ?roundZero⟩
  case roundZero =>
    obtain ⟨r, w, hexec, hwords⟩ := exec_keyExpand_firstWords hm hlen
    refine ⟨_, _, hexec, exec_addRoundKey_of_le rfl (Nat.zero_le _), fun k => ?_⟩
    calc (addRoundKey s.state (roundKey w 0)).get k
      _ = s.state.get k ^^^ (roundKey w 0)[k.val] := getElem_xorBlock _ _ k.val k.isLt
      _ = s.state.get k ^^^ s.key.getD k.val 0 := by rw [getElem_roundKey_zero hwords k.isLt]

end Sys2Proof.Machine
end

section
/-! PROOF. The block cipher (44_block_cipher.md R190 to R194). Cipher folds its rounds from the left and InvCipher folds
the same list of rounds from the right, so the states between the rounds are these folds over a part of the list, and
the two folds undo each other round by round because decRound and encRound do. -/

namespace Sys2Proof.Machine

/-! ### The rounds as folds -/

/-- The full rounds of Cipher under the round keys numbered in `rounds`, the first one first. -/
def encRounds (rk : Nat → Block) (rounds : List Nat) (s : Block) : Block :=
  rounds.foldl (fun s round => encRound s (rk round)) s

/-- The full rounds of InvCipher under the round keys numbered in `rounds`, the last one first. -/
def decRounds (rk : Nat → Block) (rounds : List Nat) (s : Block) : Block :=
  rounds.foldr (fun round s => decRound s (rk round)) s

@[simp] theorem encRounds_nil (rk : Nat → Block) (s : Block) : encRounds rk [] s = s := rfl

@[simp] theorem encRounds_cons (rk : Nat → Block) (round : Nat) (rounds : List Nat) (s : Block) :
    encRounds rk (round :: rounds) s = encRounds rk rounds (encRound s (rk round)) := rfl

@[simp] theorem encRounds_concat (rk : Nat → Block) (rounds : List Nat) (round : Nat) (s : Block) :
    encRounds rk (rounds ++ [round]) s = encRound (encRounds rk rounds s) (rk round) := by
  simp [encRounds]

@[simp] theorem decRounds_nil (rk : Nat → Block) (s : Block) : decRounds rk [] s = s := rfl

@[simp] theorem decRounds_cons (rk : Nat → Block) (round : Nat) (rounds : List Nat) (s : Block) :
    decRounds rk (round :: rounds) s = decRound (decRounds rk rounds s) (rk round) := rfl

/-- R190. -/
theorem cipher_eq_encRounds (nr : Nat) (rk : Nat → Block) (x : Block) :
    cipher nr rk x =
      addRoundKey (shiftRows (subBytes (encRounds rk (innerRounds nr) (addRoundKey x (rk 0))))) (rk nr) := rfl

/-- R191. -/
theorem invCipher_eq_decRounds (nr : Nat) (rk : Nat → Block) (y : Block) :
    invCipher nr rk y =
      addRoundKey (decRounds rk (innerRounds nr) (invSubBytes (invShiftRows (addRoundKey y (rk nr))))) (rk 0) := by
  rw [invCipher, List.foldl_reverse]
  rfl

/-! ### The state after each round -/

/-- The state of Cipher after round `round`. -/
def cipherState (rk : Nat → Block) (x : Block) (round : Nat) : Block :=
  encRounds rk (List.range' 1 round) (addRoundKey x (rk 0))

/-- The state of InvCipher after the rounds Nr-1 down to `round`. -/
def invCipherState (nr : Nat) (rk : Nat → Block) (y : Block) (round : Nat) : Block :=
  decRounds rk (List.range' round (nr - round)) (invSubBytes (invShiftRows (addRoundKey y (rk nr))))

theorem cipherState_succ (rk : Nat → Block) (x : Block) (round : Nat) :
    cipherState rk x (round + 1) = encRound (cipherState rk x round) (rk (round + 1)) := by
  rw [cipherState, List.range'_1_concat, encRounds_concat, Nat.add_comm 1 round, cipherState]

theorem invCipherState_of_lt {nr round : Nat} (h : round < nr) (rk : Nat → Block) (y : Block) :
    invCipherState nr rk y round = decRound (invCipherState nr rk y (round + 1)) (rk round) := by
  have one_more : nr - round = nr - (round + 1) + 1 := by omega
  rw [invCipherState, one_more, List.range'_succ, decRounds_cons, invCipherState]

theorem cipherRounds_cipherState (nr : Nat) (rk : Nat → Block) (x : Block) :
    CipherRounds nr rk x (cipherState rk x) := by
  refine ⟨rfl, fun round hpos _ => ?_⟩
  obtain ⟨before, rfl⟩ := Nat.exists_eq_add_of_le' hpos
  exact cipherState_succ rk x before

theorem invCipherRounds_invCipherState (nr : Nat) (rk : Nat → Block) (y : Block) :
    InvCipherRounds nr rk y (invCipherState nr rk y) := by
  refine ⟨?_, fun round _ hlt => invCipherState_of_lt hlt rk y⟩
  rw [invCipherState, Nat.sub_self, List.range'_zero, decRounds_nil]

/-- Settles O27: the states are `cipherState` and `invCipherState`, and the rounds 1 .. Nr-1 end in the last of them. -/
theorem ciphersFollowTheirRounds : Obligations.CiphersFollowTheirRounds := fun nr rk x _ =>
  ⟨⟨cipherState rk x, cipherRounds_cipherState nr rk x, cipher_eq_encRounds nr rk x⟩,
    ⟨invCipherState nr rk x, invCipherRounds_invCipherState nr rk x, invCipher_eq_decRounds nr rk x⟩⟩

/-! ### The two ciphers undo each other -/

theorem decRound_encRound (s k : Block) : decRound (encRound s k) k = s := by
  rw [encRound, decRound, addRoundKey_addRoundKey, invMixColumns_mixColumns, invShiftRows_shiftRows,
    invSubBytes_subBytes]

theorem encRound_decRound (s k : Block) : encRound (decRound s k) k = s := by
  rw [encRound, decRound, subBytes_invSubBytes, shiftRows_invShiftRows, mixColumns_invMixColumns,
    addRoundKey_addRoundKey]

theorem decRounds_encRounds (rk : Nat → Block) (rounds : List Nat) (s : Block) :
    decRounds rk rounds (encRounds rk rounds s) = s := by
  induction rounds generalizing s with
  | nil => rfl
  | cons round rounds ih => rw [encRounds_cons, decRounds_cons, ih, decRound_encRound]

theorem encRounds_decRounds (rk : Nat → Block) (rounds : List Nat) (s : Block) :
    encRounds rk rounds (decRounds rk rounds s) = s := by
  induction rounds with
  | nil => rfl
  | cons round rounds ih => rw [decRounds_cons, encRounds_cons, encRound_decRound, ih]

/-- R192 needs no bound on the round count. -/
theorem invCipher_cipher (nr : Nat) (rk : Nat → Block) (x : Block) : invCipher nr rk (cipher nr rk x) = x := by
  rw [invCipher_eq_decRounds, cipher_eq_encRounds, addRoundKey_addRoundKey, invShiftRows_shiftRows,
    invSubBytes_subBytes, decRounds_encRounds, addRoundKey_addRoundKey]

theorem cipher_invCipher (nr : Nat) (rk : Nat → Block) (y : Block) : cipher nr rk (invCipher nr rk y) = y := by
  rw [cipher_eq_encRounds, invCipher_eq_decRounds, addRoundKey_addRoundKey, encRounds_decRounds,
    subBytes_invSubBytes, shiftRows_invShiftRows, addRoundKey_addRoundKey]

/-- Settles O30: every round is undone by the inverse round under the same round key. -/
theorem invCipherUndoesCipher : Obligations.InvCipherUndoesCipher := fun nr rk x _ =>
  ⟨invCipher_cipher nr rk x, cipher_invCipher nr rk x⟩

/-! ### ENC_BLOCK and DEC_BLOCK -/

theorem exec_encBlock_of_noKey {s : State} (hk : s.keyValid = false) :
    exec .encBlock s = .next (raise .noKey s) := by
  simp [exec, execEncBlock, hk]

theorem exec_encBlock_of_keyValid {s : State} {b : Block} (hk : s.keyValid = true)
    (hb : cipher s.nr.count (roundKey s.rkw) s.state = b) : exec .encBlock s = .next (writeState b s) := by
  simp [exec, execEncBlock, encryptBlock, hk, hb]

theorem exec_decBlock_of_noKey {s : State} (hk : s.keyValid = false) :
    exec .decBlock s = .next (raise .noKey s) := by
  simp [exec, execDecBlock, hk]

theorem exec_decBlock_of_keyValid {s : State} {b : Block} (hk : s.keyValid = true)
    (hb : invCipher s.nr.count (roundKey s.rkw) s.state = b) : exec .decBlock s = .next (writeState b s) := by
  simp [exec, execDecBlock, decryptBlock, hk, hb]

/-- DEC_BLOCK runs under the schedule that ENC_BLOCK ran under, so R192 gives STATE back. -/
theorem exec_decBlock_of_exec_encBlock {s t : State} (hk : s.keyValid = true) (h : exec .encBlock s = .next t) :
    exec .decBlock t = .next s := by
  rw [exec_encBlock_of_keyValid hk rfl] at h
  cases h
  exact exec_decBlock_of_keyValid hk (invCipher_cipher s.nr.count (roundKey s.rkw) s.state)

/-- The example of R193 with the all-zero key and block. -/
theorem cipher_example_zeroKey :
    cipher Rounds.ten.count (roundKey (scheduleOfKey .ten (List.replicate 16 0))) zeroBlock =
      hexBlock 0x66e94bd4ef8a2c3b884cfa59ca342b2e := by
  decide +kernel

/-- The 128-bit example of R193. -/
theorem cipher_example_128 :
    cipher Rounds.ten.count
        (roundKey (scheduleOfKey .ten (hexBlock 0x000102030405060708090a0b0c0d0e0f).toList))
        (hexBlock 0x00112233445566778899aabbccddeeff) =
      hexBlock 0x69c4e0d86a7b0430d8cdb78070b4c55a := by
  decide +kernel

/-- The 256-bit example of R194. -/
theorem invCipher_example_256 :
    invCipher Rounds.fourteen.count
        (roundKey (scheduleOfKey .fourteen ((hexBlock 0x000102030405060708090a0b0c0d0e0f).toList ++
          (hexBlock 0x101112131415161718191a1b1c1d1e1f).toList)))
        (hexBlock 0x8ea2b7ca516745bfeafc49904b496089) =
      hexBlock 0x00112233445566778899aabbccddeeff := by
  decide +kernel

/-- Settles O28: one law of ENC_BLOCK for each outcome of R193's check, and its two examples. -/
theorem encBlockEncryptsState : Obligations.EncBlockEncryptsState := by
  refine ⟨rfl, fun _ => exec_encBlock_of_noKey, fun _ hk => exec_encBlock_of_keyValid hk rfl,
    illegalUnless_plainWord (by decide), fun s hk hnr hrkw hs => exec_encBlock_of_keyValid hk ?zeroKey,
    fun s hk hnr hrkw hs => exec_encBlock_of_keyValid hk ?key128⟩
  case zeroKey => rw [hnr, hrkw, hs, cipher_example_zeroKey]
  case key128 => rw [hnr, hrkw, hs, cipher_example_128]

/-- Settles O29: one law of DEC_BLOCK for each outcome of R194's check, `exec_decBlock_of_exec_encBlock`, and the
example. -/
theorem decBlockDecryptsState : Obligations.DecBlockDecryptsState := by
  refine ⟨rfl, fun _ => exec_decBlock_of_noKey, fun _ hk => exec_decBlock_of_keyValid hk rfl,
    illegalUnless_plainWord (by decide), fun _ _ hk _ => exec_decBlock_of_exec_encBlock hk,
    fun s hk hnr hrkw hs => exec_decBlock_of_keyValid hk ?key256⟩
  case key256 => rw [hnr, hrkw, hs, invCipher_example_256]

end Sys2Proof.Machine
end

section
/-! PROOF. PKCS#7 padding (45_padding.md R210 to R217). `padCheck` succeeds exactly on the blocks that end in padding
(`EndsInPadding`), and a filled block does. R214 brings both message functions to the final block, and R217 follows
from it: the filled final block passes the check with the count that filled it. -/

namespace Sys2Proof.Machine

/-! ### PadFill -/

theorem getElem_padFill (x : Block) (n : Nat) {k : Nat} (hk : k < 16) :
    (padFill x n)[k] = if k < n then x[k] else BitVec.ofNat 8 (16 - n) := by
  simp [padFill]

theorem getD_block_of_lt (x : Block) {k : Nat} (hk : k < 16) : x.getD k 0 = x[k] := by
  simp [Vector.getD, hk]

/-- R214: the bytes from `n` on do not matter. -/
theorem padFill_congr {x y : Block} {n : Nat} (h : ∀ k < n, x.getD k 0 = y.getD k 0) : padFill x n = padFill y n := by
  refine Vector.ext fun k hk => ?_
  rw [getElem_padFill x n hk, getElem_padFill y n hk]
  split
  next hkn => rw [← getD_block_of_lt x hk, ← getD_block_of_lt y hk, h k hkn]
  next => rfl

theorem padFill_zero (x : Block) : padFill x 0 = Vector.replicate 16 0x10 :=
  Vector.ext fun k hk => by simp [getElem_padFill x 0 hk]

theorem padFill_fifteen (x : Block) : padFill x 15 = x.set 15 0x01 := by
  refine Vector.ext fun k hk => ?_
  rw [getElem_padFill x 15 hk, Vector.getElem_set]
  by_cases hlast : k = 15
  · simp [hlast]
  · simp [show k < 15 by omega, Ne.symm hlast]

theorem padFill_example {x : Block} (h : x[0] = 0x61) :
    padFill x 1 = hexBlock 0x610f0f0f0f0f0f0f0f0f0f0f0f0f0f0f :=
  calc padFill x 1
    _ = padFill (hexBlock 0x61000000000000000000000000000000) 1 := by
      refine padFill_congr fun k hk => ?_
      obtain rfl : k = 0 := by omega
      exact (getD_block_of_lt x (by decide)).trans h
    _ = hexBlock 0x610f0f0f0f0f0f0f0f0f0f0f0f0f0f0f := by decide +kernel

/-! ### PadCheck -/

/-- R213's condition on the padding length `p`: the last `p` bytes all equal `p`, which is in 1..16. -/
def EndsInPadding (x : Block) (p : Nat) : Prop :=
  1 ≤ p ∧ p ≤ 16 ∧ ∀ k : Fin 16, 16 - p ≤ k.val → (x.get k).toNat = p

theorem EndsInPadding.last {x : Block} {p : Nat} (h : EndsInPadding x p) : x[15].toNat = p := by
  obtain ⟨hpos, -, hbytes⟩ := h
  exact hbytes 15 (by change 16 - p ≤ 15; omega)

/-- Bytes compare as numbers do, and `range'` lists the places of the last bytes. -/
theorem all_last_bytes_iff {x : Block} {p : Nat} (hp : p ≤ 16) (hlast : x[15].toNat = p) :
    ((List.range' (16 - p) p).all fun k => x.getD k 0 = x[15]) = true ↔
      ∀ k : Fin 16, 16 - p ≤ k.val → (x.get k).toNat = p := by
  simp only [List.all_eq_true, List.mem_range'_1, decide_eq_true_eq, ← BitVec.toNat_inj, hlast]
  constructor
  · intro h k hk
    rw [← h k ⟨hk, by omega⟩, getD_block_of_lt x k.isLt]
    rfl
  · intro h k hk
    have hlt : k < 16 := by omega
    rw [getD_block_of_lt x hlt]
    exact h ⟨k, hlt⟩ hk.1

theorem padCheck_of_endsInPadding {x : Block} {p : Nat} (h : EndsInPadding x p) : padCheck x = some (16 - p) := by
  have hlast := h.last
  obtain ⟨hpos, hle, hbytes⟩ := h
  have inRange : ¬ (p < 1 ∨ p > 16) := by omega
  simp only [padCheck, hlast, if_neg inRange, if_pos ((all_last_bytes_iff hle hlast).mpr hbytes)]

theorem padCheck_of_not_endsInPadding {x : Block} (h : ¬ ∃ p, EndsInPadding x p) : padCheck x = none := by
  simp only [padCheck]
  split
  next => rfl
  next hrange =>
    refine if_neg fun hall => h ⟨x[15].toNat, by omega, by omega, ?_⟩
    exact (all_last_bytes_iff (by omega) rfl).mp hall

/-- The filled block passes the check, and the count is that of its data bytes. -/
theorem padCheck_padFill (x : Block) {n : Nat} (hn : n < 16) : padCheck (padFill x n) = some n := by
  have filled : EndsInPadding (padFill x n) (16 - n) := by
    refine ⟨by omega, by omega, fun k hk => ?_⟩
    have data_ends : ¬ k.val < n := by omega
    change (padFill x n)[k.val].toNat = 16 - n
    rw [getElem_padFill x n k.isLt, if_neg data_ends, BitVec.toNat_ofNat, Nat.mod_eq_of_lt (by omega)]
  rw [padCheck_of_endsInPadding filled, Nat.sub_sub_self hn.le]

/-! ### PAD_ADD and PAD_CHECK -/

theorem exec_padAdd_of_gt {n : Byte} (hn : n.toNat > 15) (s : State) :
    exec (.padAdd n) s = .next (raise .badOperand s) := by
  simp [exec, execPadAdd, hn]

theorem exec_padAdd_of_le {n : Byte} {s : State} {b : Block} (hn : n.toNat ≤ 15)
    (hb : padFill s.state n.toNat = b) : exec (.padAdd n) s = .next (writeState b s) := by
  simp [exec, execPadAdd, Nat.not_lt.mpr hn, hb]

theorem exec_padCheck_of_some {s : State} {c : Nat} (h : padCheck s.state = some c) :
    exec .padCheck s = .next (writeResult (BitVec.ofNat 8 c) s) := by
  simp [exec, execPadCheck, h]

theorem exec_padCheck_of_none {s : State} (h : padCheck s.state = none) :
    exec .padCheck s = .next (raise .invalidPadding s) := by
  simp [exec, execPadCheck, h]

/-- Settles O31: one law of PAD_ADD for each outcome of R215's check; the corner cases are laws of `padFill`. -/
theorem padAddFillsTheBlock : Obligations.PadAddFillsTheBlock := by
  refine ⟨fun n => decode_fieldWord 0x40 n 0, fun _ s hn => exec_padAdd_of_gt hn s,
    fun n s hn => ⟨_, exec_padAdd_of_le hn rfl, fun k => ?fill⟩, illegalUnless_oneByteWord (by decide),
    fun b => ⟨padFill_zero b, padFill_fifteen b⟩, exec_padAdd_of_gt (by decide),
    fun s h => exec_padAdd_of_le (by decide) (padFill_example h)⟩
  case fill =>
    have padByte : BitVec.ofNat 8 (16 - n.toNat) = 16 - n := by bv_omega
    exact padByte ▸ getElem_padFill s.state n.toNat k.isLt

theorem padCheck_of_last_one {b : Block} (h : b.get 15 = 0x01) : padCheck b = some 15 := by
  refine padCheck_of_endsInPadding (p := 1) ⟨by decide, by decide, fun k hk => ?_⟩
  obtain rfl : k = 15 := by omega
  exact congrArg BitVec.toNat h

theorem padCheck_of_last_two {b : Block} (h15 : b.get 15 = 0x02) (h14 : b.get 14 = 0x02) :
    padCheck b = some 14 := by
  refine padCheck_of_endsInPadding (p := 2) ⟨by decide, by decide, fun k hk => ?_⟩
  obtain rfl | rfl : k = 14 ∨ k = 15 := by omega
  · exact congrArg BitVec.toNat h14
  · exact congrArg BitVec.toNat h15

/-- R216's invalid blocks: the last byte out of 1..16, and 02 after a 03. -/
theorem padCheck_of_invalid {b : Block}
    (h : b.get 15 = 0x00 ∨ b.get 15 = 0x11 ∨ (b.get 15 = 0x02 ∧ b.get 14 = 0x03)) : padCheck b = none := by
  refine padCheck_of_not_endsInPadding ?_
  rintro ⟨p, hp⟩
  obtain rfl : (b.get 15).toNat = p := hp.last
  obtain ⟨hpos, hle, hbytes⟩ := hp
  obtain h0 | h17 | ⟨h2, h3⟩ := h
  · rw [h0] at hpos
    exact absurd hpos (by decide)
  · rw [h17] at hle
    exact absurd hle (by decide)
  · have two_bytes : 16 - (b.get 15).toNat ≤ (14 : Fin 16).val := by rw [h2]; decide
    have equal_bytes := hbytes 14 two_bytes
    rw [h2, h3] at equal_bytes
    exact absurd equal_bytes (by decide)

/-- Settles O32: one law of PAD_CHECK for each outcome of R213's check; the corner cases are laws of `padCheck`. -/
theorem padCheckCountsTheData : Obligations.PadCheckCountsTheData := by
  refine ⟨rfl, fun s p hpos hle hbytes => exec_padCheck_of_some (padCheck_of_endsInPadding ⟨hpos, hle, hbytes⟩),
    fun s h => exec_padCheck_of_none (padCheck_of_not_endsInPadding h), illegalUnless_plainWord (by decide),
    fun _ => padCheck_of_last_one, ?sixteen, fun _ => padCheck_of_invalid, fun _ => padCheck_of_last_two,
    fun s hs => exec_padCheck_of_some ?exampleBlock⟩
  case sixteen => rw [← padFill_zero zeroBlock, padCheck_padFill _ (by decide)]
  case exampleBlock => rw [hs, ← padFill_example (x := Vector.replicate 16 0x61) rfl, padCheck_padFill _ (by decide)]

/-! ### The final block of a message -/

theorem length_blockBytes (b : Block) : (blockBytes b).length = 16 := Vector.length_toList ..

theorem getElem_blockBytes (b : Block) {k : Nat} (hk : k < (blockBytes b).length) :
    (blockBytes b)[k] = b[k]'(length_blockBytes b ▸ hk) := Vector.getElem_toList ..

theorem getElem_blockAt (d : List Byte) (i : Nat) (fill : Byte) {k : Nat} (hk : k < 16) :
    (blockAt d i fill)[k] = d.getD (16 * i + k) fill := by
  simp [blockAt]

/-- Nothing is filled where the string reaches. -/
theorem take_blockBytes_blockAt {d : List Byte} {i n : Nat} (hn : n ≤ 16) (h : 16 * i + n ≤ d.length) (fill : Byte) :
    (blockBytes (blockAt d i fill)).take n = (d.drop (16 * i)).take n := by
  refine List.ext_getElem ?_ fun k hk _ => ?_
  · rw [List.length_take, length_blockBytes, List.length_take, List.length_drop]
    omega
  · rw [List.length_take, length_blockBytes] at hk
    have hlt : 16 * i + k < d.length := by omega
    rw [List.getElem_take, getElem_blockBytes, getElem_blockAt d i fill (by omega), List.getD_eq_getElem _ _ hlt,
      List.getElem_take, List.getElem_drop]

theorem blockBytes_blockAt {d : List Byte} {i : Nat} (h : 16 * i + 16 ≤ d.length) (fill : Byte) :
    blockBytes (blockAt d i fill) = (d.drop (16 * i)).take 16 := by
  rw [← take_blockBytes_blockAt le_rfl h fill, List.take_of_length_le (length_blockBytes _).le]

/-- The bytes of the first `m` blocks are the first 16 * m bytes. -/
theorem joinBlocks_blocksOf {d : List Byte} {m : Nat} (h : 16 * m ≤ d.length) :
    joinBlocks (blocksOf m d) = d.take (16 * m) := by
  induction m with
  | zero => rfl
  | succ m ih =>
    have last_apart : blocksOf (m + 1) d = blocksOf m d ++ [blockAt d m 0] := by
      simp [blocksOf, List.range_succ]
    rw [last_apart, joinBlocks, List.flatMap_append, ← joinBlocks, ih (by omega), List.flatMap_singleton,
      blockBytes_blockAt (by omega), ← List.take_add, Nat.mul_succ]

theorem blockBytes_padFill (x : Block) {n : Nat} (hn : n ≤ 16) :
    blockBytes (padFill x n) = (blockBytes x).take n ++ List.replicate (16 - n) (BitVec.ofNat 8 (16 - n)) := by
  refine List.ext_getElem ?_ fun k hk _ => ?_
  · simp [length_blockBytes, hn]
  · rw [getElem_blockBytes, getElem_padFill x n (length_blockBytes _ ▸ hk), List.getElem_append]
    by_cases hkn : k < n <;> simp [length_blockBytes, hn, hkn, getElem_blockBytes]

theorem padFill_blockAt_stale {data : List Byte} {i n : Nat} {f : Block} (hn : n ≤ 16)
    (hf : ∀ k < n, f.getD k 0 = data.getD (16 * i + k) 0) : padFill f n = padFill (blockAt data i 0) n :=
  padFill_congr fun k hk => by rw [hf k hk, getD_block_of_lt _ (by omega), getElem_blockAt data i 0 (by omega)]

/-- The data bytes of the final block are those past the whole blocks. -/
theorem take_blockBytes_finalBlock (data : List Byte) :
    (blockBytes (blockAt data (data.length / 16) 0)).take (data.length % 16) =
      data.drop (16 * (data.length / 16)) := by
  rw [take_blockBytes_blockAt (by omega) (Nat.div_add_mod _ _).le, List.take_of_length_le]
  rw [List.length_drop]
  omega

/-- R214 for PKCS7Add: what it appends fills the final block. -/
theorem pkcs7Add_eq_padFill (data : List Byte) :
    pkcs7Add data = joinBlocks (blocksOf (data.length / 16) data) ++
      blockBytes (padFill (blockAt data (data.length / 16) 0) (data.length % 16)) := by
  rw [joinBlocks_blocksOf (Nat.mul_div_le _ _), blockBytes_padFill _ (by omega), take_blockBytes_finalBlock,
    ← List.append_assoc, List.take_append_drop, pkcs7Add]

/-- The places that R213 checks hold the last `p` bytes. -/
theorem drop_blockBytes (b : Block) {p : Nat} (hp : p ≤ 16) :
    (blockBytes b).drop (16 - p) = (List.range' (16 - p) p).map fun k => b.getD k 0 := by
  refine List.ext_getElem ?_ fun k _ hk => ?_
  · rw [List.length_drop, length_blockBytes, List.length_map, List.length_range', Nat.sub_sub_self hp]
  · have hlt : 16 - p + k < 16 := by rw [List.length_map, List.length_range'] at hk; omega
    rw [List.getElem_drop, getElem_blockBytes, List.getElem_map, List.getElem_range', Nat.one_mul,
      getD_block_of_lt b hlt]

theorem getLast?_append_blockBytes (pre : List Byte) (b : Block) : (pre ++ blockBytes b).getLast? = some b[15] := by
  have last_place : 15 < (blockBytes b).length := by simp [length_blockBytes]
  rw [List.getLast?_append, List.getLast?_eq_getElem?, length_blockBytes, List.getElem?_eq_getElem last_place,
    getElem_blockBytes, Option.some_or]

/-- R214 for PKCS7Remove: R211's checks are R213's checks of the final block, which holds all the padding. -/
theorem pkcs7Remove_append_blockBytes (pre : List Byte) (b : Block) :
    pkcs7Remove (pre ++ blockBytes b) = (padCheck b).map fun c => pre ++ (blockBytes b).take c := by
  have hlen : (pre ++ blockBytes b).length = pre.length + 16 := by rw [List.length_append, length_blockBytes]
  simp only [pkcs7Remove, padCheck, getLast?_append_blockBytes, hlen]
  by_cases hrange : b[15].toNat < 1 ∨ b[15].toNat > 16
  · rw [if_pos hrange, if_pos hrange, Option.map_none]
  · have hle : b[15].toNat ≤ 16 := by omega
    have fits : ¬ b[15].toNat > pre.length + 16 := by omega
    rw [if_neg hrange, if_neg hrange, if_neg fits, Nat.add_sub_assoc hle pre.length, List.drop_length_add_append,
      drop_blockBytes b hle, List.all_map, List.take_length_add_append, apply_ite (Option.map _)]
    rfl

theorem joinBlocks_append_finalBlock {data : List Byte} {m : Nat} (hm : 1 ≤ m) (hlen : data.length = 16 * m) :
    joinBlocks (blocksOf (m - 1) data) ++ blockBytes (blockAt data (m - 1) 0) = data := by
  rw [joinBlocks_blocksOf (by omega), blockBytes_blockAt (by omega), ← List.take_add, List.take_of_length_le (by omega)]

/-- Settles O33: both functions of R214, each brought to the final block. -/
theorem paddingLevelsAgree : Obligations.PaddingLevelsAgree := by
  refine ⟨fun data f hf => ?add, fun data m hm hlen => ?remove⟩
  case add => rw [padFill_blockAt_stale (by omega) hf, ← pkcs7Add_eq_padFill]
  case remove => rw [← pkcs7Remove_append_blockBytes, joinBlocks_append_finalBlock hm hlen]

/-! ### Padding grows and is removed -/

theorem length_pkcs7Add (p : List Byte) : (pkcs7Add p).length = p.length + (16 - p.length % 16) := by
  simp [pkcs7Add]

/-- R217: the filled final block passes the check with its own count, which cuts off what was filled. -/
theorem pkcs7Remove_pkcs7Add (p : List Byte) : pkcs7Remove (pkcs7Add p) = some p := by
  have count_lt : p.length % 16 < 16 := Nat.mod_lt _ (by decide)
  have count_length : ((blockBytes (blockAt p (p.length / 16) 0)).take (p.length % 16)).length = p.length % 16 := by
    rw [List.length_take, length_blockBytes, min_eq_left count_lt.le]
  rw [pkcs7Add_eq_padFill, pkcs7Remove_append_blockBytes, padCheck_padFill _ count_lt, Option.map_some,
    blockBytes_padFill _ count_lt.le, List.take_left' count_length, take_blockBytes_finalBlock,
    joinBlocks_blocksOf (Nat.mul_div_le _ _), List.take_append_drop]

/-- Settles O34: `pkcs7Remove_pkcs7Add`, and the length of what R210 appends. -/
theorem paddingGrowsAndIsRemoved : Obligations.PaddingGrowsAndIsRemoved := fun p =>
  ⟨length_pkcs7Add p, fun aligned => by rw [length_pkcs7Add, aligned], pkcs7Remove_pkcs7Add p⟩

end Sys2Proof.Machine
end

section
/-! PROOF. The message controller (46_modes.md R234 to R239). MSG_START, MSG_BLOCK and MSG_ABORT get one law for each
outcome of their checks. The controller invariants of R234 are kept by every command, hence by every step, and hold in
every state that is reached from reset. -/

namespace Sys2Proof.Machine

/-! ### MSG_ABORT -/

theorem exec_msgAbort_of_active {s : State} (hm : s.msgActive = true) :
    exec .msgAbort s = .next { endMessage s with doutBytes := 0 } := by
  simp [exec, execMsgAbort, hm]

theorem exec_msgAbort_of_inactive {s : State} (hm : s.msgActive = false) : exec .msgAbort s = .next s := by
  simp [exec, execMsgAbort, hm]

/-- Settles O37: one law of MSG_ABORT for each value of MSG_ACTIVE. -/
theorem msgAbortEndsTheMessage : Obligations.MsgAbortEndsTheMessage :=
  ⟨rfl, fun _ => exec_msgAbort_of_active, fun _ => exec_msgAbort_of_inactive, illegalUnless_plainWord (by decide)⟩

/-! ### MSG_START -/

theorem exec_msgStart_of_check_eq_some {a : Byte} {s : State} {c : ErrCode}
    (h : msgStartCheck (msgDirOf a) (msgModeOf a) s = some c) : exec (.msgStart a) s = .next (raise c s) := by
  simp [exec, execMsgStart, h]

theorem exec_msgStart_of_check_eq_none {a : Byte} {s : State}
    (h : msgStartCheck (msgDirOf a) (msgModeOf a) s = none) :
    exec (.msgStart a) s = .next (beginMessage (msgDirOf a) (msgModeOf a) s) := by
  simp [exec, execMsgStart, h]

section
variable {dir : Dir} {mode : Mode} {s : State}

theorem msgStartCheck_of_active (hm : s.msgActive = true) : msgStartCheck dir mode s = some .sequence := by
  simp [msgStartCheck, hm]

theorem msgStartCheck_of_noKey (hm : s.msgActive = false) (hk : s.keyValid = false) :
    msgStartCheck dir mode s = some .noKey := by
  simp [msgStartCheck, hm, hk]

theorem msgStartCheck_of_ivIncomplete (hm : s.msgActive = false) (hk : s.keyValid = true) (hmode : mode = .cbc)
    (hiv : s.ivWr ≠ 0b1111#4) : msgStartCheck dir mode s = some .invalidIvLength := by
  simp [msgStartCheck, hm, hk, hmode, hiv]

theorem msgStartCheck_of_unaligned (hm : s.msgActive = false) (hk : s.keyValid = true)
    (hiv : mode = .cbc → s.ivWr = 0b1111#4) (hdir : dir = .dec) (hlen : s.msgLen.toNat % 16 ≠ 0) :
    msgStartCheck dir mode s = some .invalidBlockLength := by
  simp_all [msgStartCheck]

theorem msgStartCheck_of_empty (hm : s.msgActive = false) (hk : s.keyValid = true)
    (hiv : mode = .cbc → s.ivWr = 0b1111#4) (hdir : dir = .dec) (hlen : s.msgLen = 0#32) :
    msgStartCheck dir mode s = some .invalidPadding := by
  simp_all [msgStartCheck]

/-- A MSG_START by its two operands, when R235's checks pass. -/
theorem exec_msgStart_operand (h : msgStartCheck dir mode s = none) :
    exec (.msgStart (msgStartOperand dir mode)) s = .next (beginMessage dir mode s) := by
  have begins := exec_msgStart_of_check_eq_none (a := msgStartOperand dir mode) (s := s)
  rw [msgDirOf_operand, msgModeOf_operand] at begins
  exact begins h

theorem readReg_msgRemain_beginMessage_enc :
    readReg .msgRemain (beginMessage .enc mode s) = (BitVec.ofNat 29 (s.msgLen.toNat / 16 + 1)).setWidth 32 := by
  rw [beginMessage_eq]
  rfl

theorem readReg_msgTail_beginMessage_enc :
    readReg .msgTail (beginMessage .enc mode s) = (BitVec.ofNat 4 (s.msgLen.toNat % 16)).setWidth 32 := by
  rw [beginMessage_eq]
  rfl

end

/-- An operand byte with A[7:2] = 0 is the operand of its two bits (R82, R87). -/
theorem msgStartOperand_of_reserved_zero :
    ∀ a : Byte, a.extractLsb' 2 6 = 0#6 → msgStartOperand (msgDirOf a) (msgModeOf a) = a := by
  decide +kernel

theorem decode_msgStart_operand (d : Dir) (m : Mode) :
    decode (fieldWord 0x50 (msgStartOperand d m) 0) = .ok (.msgStart (msgStartOperand d m)) := by
  cases d <;> cases m <;> rfl

theorem illegalUnless_msgStartWord :
    IllegalUnless 0x50 (fun w => ∃ (d : Dir) (m : Mode), w = fieldWord 0x50 (msgStartOperand d m) 0) := by
  refine illegalUnless_of_decodes fun w hopc ⟨_, hrsv, hb, _, hreserved⟩ =>
    ⟨msgDirOf (aField w), msgModeOf (aField w), ?_⟩
  rw [hopc] at hb hreserved
  rw [msgStartOperand_of_reserved_zero _ (hreserved rfl), fieldWord_eq_commandWord, ← commandWord_fields hrsv, hopc,
    hb (by decide)]
  simp

/-- Settles O35: `msgStartCheck` answers the first failing check of R235, and `beginMessage_eq` lists what a MSG_START
that passes them writes. -/
theorem msgStartBeginsAMessage : Obligations.MsgStartBeginsAMessage := by
  refine ⟨decode_msgStart_operand, fun a => ⟨by simp [msgDirOf], by simp [msgModeOf]⟩,
    fun a s hm => exec_msgStart_of_check_eq_some (msgStartCheck_of_active hm),
    fun a s hm hk => exec_msgStart_of_check_eq_some (msgStartCheck_of_noKey hm hk),
    fun a s hm hk hmode hiv => exec_msgStart_of_check_eq_some (msgStartCheck_of_ivIncomplete hm hk hmode hiv),
    fun a s hm hk hiv hdir hlen => exec_msgStart_of_check_eq_some (msgStartCheck_of_unaligned hm hk hiv hdir hlen),
    fun a s hm hk hiv hdir hlen => exec_msgStart_of_check_eq_some (msgStartCheck_of_empty hm hk hiv hdir hlen),
    fun a s hm hk hiv hlen => ?begins, illegalUnless_msgStartWord, fun s hm hk hlen => ?largest,
    fun s hm hk hiv hlen => ⟨rfl, ?cbcExample⟩⟩
  case begins =>
    rw [exec_msgStart_of_check_eq_none (msgStartCheck_eq_none.mpr ⟨hm, hk, hiv, hlen⟩), beginMessage_eq,
      apply_ite (BitVec.ofNat 29)]
  case largest =>
    have passes : msgStartCheck .enc .ecb s = none := msgStartCheck_eq_none.mpr ⟨hm, hk, nofun, nofun⟩
    refine ⟨_, exec_msgStart_operand passes, ?_⟩
    rw [readReg_msgRemain_beginMessage_enc, hlen]
    rfl
  case cbcExample =>
    have passes : msgStartCheck .enc .cbc s = none := msgStartCheck_eq_none.mpr ⟨hm, hk, fun _ => hiv, nofun⟩
    refine ⟨_, exec_msgStart_operand passes, rfl, rfl, rfl, ?_, ?_, rfl, rfl, rfl⟩
    · rw [readReg_msgRemain_beginMessage_enc, hlen]; rfl
    · rw [readReg_msgTail_beginMessage_enc, hlen]; rfl

/-! ### MSG_BLOCK -/

section
variable {s : State}

theorem exec_msgBlock_of_inactive (hm : s.msgActive = false) : exec .msgBlock s = .next (raise .sequence s) := by
  simp [exec, execMsgBlock, hm]

theorem exec_msgBlock_of_enc (hm : s.msgActive = true) (hd : s.msgDir = .enc) :
    exec .msgBlock s = .next (encryptMsgBlock s) := by
  simp [exec, execMsgBlock, hm, hd]

theorem exec_msgBlock_of_dec (hm : s.msgActive = true) (hd : s.msgDir = .dec) :
    exec .msgBlock s = .next (decryptMsgBlock s) := by
  simp [exec, execMsgBlock, hm, hd]

theorem lastBlock_eq_false : lastBlock s = false ↔ s.msgRemain ≠ 1 := by simp [lastBlock]

@[simp] theorem setChain_msgRemain (c : Block) : (setChain c s).msgRemain = s.msgRemain := by rw [setChain_eq]

/-- A block that is not the last: CHAIN in CBC, DOUT, DOUT_BYTES and one block fewer to go (R236). -/
theorem countBlock_writeDout_setChain_of_more (h : s.msgRemain ≠ 1) (b c : Block) (n : BitVec 5) :
    countBlock (writeDout b n (setChain c s)) =
      { s with
        chain := if s.msgMode = .cbc then c else s.chain, dout := b, doutBytes := n, msgRemain := s.msgRemain - 1 } := by
  have more : (writeDout b n (setChain c s)).msgRemain ≠ 1 := by rwa [writeDout_msgRemain, setChain_msgRemain]
  rw [countBlock_more more, setChain_eq]
  rfl

/-- With the last block the message ends, and its chaining value is lost (R236, R238). -/
theorem countBlock_writeDout_setChain_of_last (h : s.msgRemain = 1) (b c : Block) (n : BitVec 5) :
    countBlock (writeDout b n (setChain c s)) = endMessage (writeDout b n s) := by
  have last : (writeDout b n (setChain c s)).msgRemain = 1 := by rwa [writeDout_msgRemain, setChain_msgRemain]
  rw [countBlock_last last, setChain_eq]
  rfl

theorem paddingFailure_setChain (c : Block) : paddingFailure (setChain c s) = paddingFailure s := by
  rw [setChain_eq]
  rfl

theorem encryptMsgBlock_of_more {y : Block} (h : s.msgRemain ≠ 1) (hy : encryptBlock s (chainXor s s.din) = y) :
    encryptMsgBlock s =
      { s with
        chain := if s.msgMode = .cbc then y else s.chain, dout := y, doutBytes := 16, msgRemain := s.msgRemain - 1 } := by
  rw [encryptMsgBlock, lastBlock_eq_false.mpr h, ← hy]
  exact countBlock_writeDout_setChain_of_more h ..

/-- The last block of an encryption is filled up from MSG_TAIL (R236). -/
theorem encryptMsgBlock_of_last (h : s.msgRemain = 1) :
    encryptMsgBlock s =
      endMessage (writeDout (encryptBlock s (chainXor s (padFill s.din s.msgTail.toNat))) 16 s) := by
  rw [encryptMsgBlock, lastBlock_eq_true.mpr h]
  exact countBlock_writeDout_setChain_of_last h ..

theorem decryptMsgBlock_of_more (h : s.msgRemain ≠ 1) :
    decryptMsgBlock s =
      { s with
        chain := if s.msgMode = .cbc then s.din else s.chain, dout := chainXor s (decryptBlock s s.din),
        doutBytes := 16, msgRemain := s.msgRemain - 1 } := by
  rw [decryptMsgBlock, lastBlock_eq_false.mpr h]
  exact countBlock_writeDout_setChain_of_more h ..

/-- The last block of a decryption whose padding is right gives its count to DOUT_BYTES (R236). -/
theorem decryptMsgBlock_of_padding {c : Nat} (h : s.msgRemain = 1)
    (hc : padCheck (chainXor s (decryptBlock s s.din)) = some c) :
    decryptMsgBlock s = endMessage (writeDout (chainXor s (decryptBlock s s.din)) (BitVec.ofNat 5 c) s) := by
  rw [decryptMsgBlock, lastBlock_eq_true.mpr h]
  simp only [hc]
  exact countBlock_writeDout_setChain_of_last h ..

theorem decryptMsgBlock_of_invalidPadding (h : s.msgRemain = 1)
    (hc : padCheck (chainXor s (decryptBlock s s.din)) = none) : decryptMsgBlock s = paddingFailure s := by
  rw [decryptMsgBlock, lastBlock_eq_true.mpr h]
  simp only [hc]
  exact paddingFailure_setChain _

end

/-- The example of R236: the first block of a CBC message. -/
theorem cipher_example_cbc :
    cipher Rounds.ten.count (roundKey (scheduleOfKey .ten (hexBlock 0x2b7e151628aed2a6abf7158809cf4f3c).toList))
        (xorBlock (hexBlock 0x68656c6c6f2c20686172647761726520) (hexBlock 0x000102030405060708090a0b0c0d0e0f)) =
      hexBlock 0xde6e368ffb86572c2abbcce5cf0e5863 := by
  decide +kernel

/-- Settles O36: one law of MSG_BLOCK for each direction and each kind of block of R236. -/
theorem msgBlockProcessesOneBlock : Obligations.MsgBlockProcessesOneBlock := by
  refine ⟨rfl, illegalUnless_plainWord (by decide), fun _ => exec_msgBlock_of_inactive, fun s hm hd hr => ?encMore,
    fun s hm hd hr => ?encLast, fun s hm hd hr => ?decMore,
    fun s hm hd hr => ⟨fun c hc => ?decLast, fun hc => ?decFailure⟩,
    fun s hm hd hmode hr hnr hrkw hchain hdin => ?cbcExample⟩
  case encMore =>
    rw [exec_msgBlock_of_enc hm hd, encryptMsgBlock_of_more hr rfl, chainXor_eq]
    rfl
  case encLast =>
    rw [exec_msgBlock_of_enc hm hd, encryptMsgBlock_of_last hr, chainXor_eq]
    rfl
  case decMore =>
    rw [exec_msgBlock_of_dec hm hd, decryptMsgBlock_of_more hr, chainXor_eq]
    rfl
  case decLast =>
    rw [← chainXor_eq] at hc ⊢
    rw [exec_msgBlock_of_dec hm hd, decryptMsgBlock_of_padding hr hc]
    rfl
  case decFailure =>
    rw [← chainXor_eq] at hc
    rw [exec_msgBlock_of_dec hm hd, decryptMsgBlock_of_invalidPadding hr hc]
    rfl
  case cbcExample =>
    have block : encryptBlock s (chainXor s s.din) = hexBlock 0xde6e368ffb86572c2abbcce5cf0e5863 := by
      rw [encryptBlock, chainXor_eq, if_pos hmode, hnr, hrkw, hchain, hdin, cipher_example_cbc]
    refine ⟨_, exec_msgBlock_of_enc hm hd, ?_⟩
    rw [encryptMsgBlock_of_more (by rw [hr]; decide) block, hr]
    exact ⟨rfl, if_pos hmode, rfl⟩

/-! ### The controller invariants -/

/-- R234's four invariants as propositions. -/
theorem controllerInv_iff {s : State} :
    s.controllerInv = true ↔
      (s.msgActive = true → s.keyValid = true ∧ s.msgRemain ≠ 0) ∧
      (s.msgActive = false →
        s.msgDir = .enc ∧ s.msgMode = .ecb ∧ s.msgRemain = 0 ∧ s.msgTail = 0 ∧ s.chain = zeroBlock) ∧
      (s.msgMode = .ecb → s.chain = zeroBlock) ∧ (s.msgDir = .dec → s.msgTail = 0) := by
  have ecb : s.msgMode = .ecb ↔ ¬ s.msgMode = .cbc := by cases s.msgMode <;> simp
  have dec : s.msgDir = .dec ↔ ¬ s.msgDir = .enc := by cases s.msgDir <;> simp
  simp only [State.controllerInv, ecb, dec]
  cases s.msgActive <;> simp [or_iff_not_imp_left, and_assoc]

section
variable (s : State)

@[simp] theorem controllerInv_raise (c : ErrCode) : (raise c s).controllerInv = s.controllerInv := rfl
@[simp] theorem controllerInv_clearErrors : (clearErrors s).controllerInv = s.controllerInv := rfl
@[simp] theorem controllerInv_writeResult (v : Byte) : (writeResult v s).controllerInv = s.controllerInv := rfl
@[simp] theorem controllerInv_writeState (b : Block) : (writeState b s).controllerInv = s.controllerInv := rfl
@[simp] theorem controllerInv_retire : (retire s).controllerInv = s.controllerInv := rfl
@[simp] theorem controllerInv_answer (r : Reply) : (answer r s).controllerInv = s.controllerInv := rfl
@[simp] theorem controllerInv_resetCore : (resetCore s).controllerInv = true := rfl
@[simp] theorem controllerInv_writeReg (r : Reg) (v : Word) : (writeReg r v s).controllerInv = s.controllerInv := by
  rw [Bool.eq_iff_iff, controllerInv_iff, controllerInv_iff]
  cases r <;> simp only [writeReg, issue]

/-- R238 leaves what R234 asks of a core without a message. -/
@[simp] theorem controllerInv_endMessage : (endMessage s).controllerInv = true := by simp [controllerInv_iff]

@[simp] theorem controllerInv_busWrite (off size : Nat) (v : Word) :
    (busWrite off size v s).controllerInv = s.controllerInv := by
  obtain ⟨-, h⟩ | ⟨r, -, -, h⟩ | ⟨r, -, -, h⟩ := busWrite_cases off size v s <;> rw [h]
  · rfl
  · exact controllerInv_writeReg s r v

end

section
variable {s : State}

/-- Without a message nothing is asked of the schedule. -/
theorem controllerInv_dropSchedule (hm : s.msgActive = false) :
    (dropSchedule s).controllerInv = s.controllerInv := by
  rw [Bool.eq_iff_iff, controllerInv_iff, controllerInv_iff]
  simp [hm]

theorem controllerInv_holdSchedule (hm : s.msgActive = false) (r : Rounds) (w : Vector Word 60) :
    (holdSchedule r w s).controllerInv = s.controllerInv := by
  rw [Bool.eq_iff_iff, controllerInv_iff, controllerInv_iff]
  simp [hm]

/-- A block that is processed takes one off MSG_REMAIN, which reaches 0 only as the message ends; CHAIN changes in CBC
alone (R236). -/
theorem controllerInv_countBlock (hs : s.controllerInv = true) (hm : s.msgActive = true) (b c : Block) (n : BitVec 5) :
    (countBlock (writeDout b n (setChain c s))).controllerInv = true := by
  by_cases last : s.msgRemain = 1
  · rw [countBlock_writeDout_setChain_of_last last, controllerInv_endMessage]
  · obtain ⟨hactive, -, hchain, htail⟩ := controllerInv_iff.mp hs
    obtain ⟨hkey, -⟩ := hactive hm
    have remains : s.msgRemain - 1 ≠ 0 := by bv_omega
    rw [countBlock_writeDout_setChain_of_more last]
    refine controllerInv_iff.mpr ⟨fun _ => ⟨hkey, remains⟩, by simp [hm], fun (hmode : s.msgMode = .ecb) => ?_, htail⟩
    simp [hmode, hchain hmode]

theorem controllerInv_decryptMsgBlock (hs : s.controllerInv = true) (hm : s.msgActive = true) :
    (decryptMsgBlock s).controllerInv = true := by
  simp only [decryptMsgBlock]
  split
  · split
    · simp [paddingFailure]
    · exact controllerInv_countBlock hs hm ..
  · exact controllerInv_countBlock hs hm ..

/-- Every message has a block: the count fits MSG_REMAIN, and R235 refuses the empty ciphertext. -/
theorem msgRemain_beginMessage_ne_zero {dir : Dir} {mode : Mode}
    (hlen : dir = .dec → s.msgLen.toNat % 16 = 0 ∧ s.msgLen ≠ 0) : (beginMessage dir mode s).msgRemain ≠ 0 := by
  have small : s.msgLen.toNat < 2 ^ 32 := s.msgLen.isLt
  rw [beginMessage_eq, ne_eq, ← BitVec.toNat_inj]
  cases dir with
  | enc =>
    change (s.msgLen.toNat / 16 + 1) % 2 ^ 29 ≠ 0
    omega
  | dec =>
    obtain ⟨aligned, nonempty⟩ := hlen rfl
    have positive : s.msgLen.toNat ≠ 0 := fun h => nonempty (BitVec.eq_of_toNat_eq h)
    change s.msgLen.toNat / 16 % 2 ^ 29 ≠ 0
    omega

theorem controllerInv_beginMessage {dir : Dir} {mode : Mode} (h : msgStartCheck dir mode s = none) :
    (beginMessage dir mode s).controllerInv = true := by
  obtain ⟨-, hkey, -, hlen⟩ := msgStartCheck_eq_none.mp h
  have remains := msgRemain_beginMessage_ne_zero (mode := mode) hlen
  rw [beginMessage_eq] at remains ⊢
  refine controllerInv_iff.mpr ⟨fun _ => ⟨hkey, remains⟩, nofun, fun (hmode : mode = .ecb) => ?ecb,
    fun (hdir : dir = .dec) => ?dec⟩
  case ecb => simp [hmode]
  case dec => simp [hdir]

end

/-- Every command keeps R234's invariants: only KEY_EXPAND and the message commands write what they speak of. -/
theorem exec_keeps_controllerInv {i : Instr} {s t : State} (hs : s.controllerInv = true) (h : exec i s = .next t) :
    t.controllerInv = true := by
  cases i with
  | nop => cases h; exact hs
  | clrErr => cases h; rwa [controllerInv_clearErrors]
  | gfMul | sbox | invSbox => cases h; rwa [controllerInv_writeResult]
  | subBytes | invSubBytes | shiftRows | invShiftRows | mixColumns | invMixColumns =>
    cases h; rwa [controllerInv_writeState]
  | addRoundKey n =>
    simp only [exec, execAddRoundKey] at h
    split at h
    · cases h; rwa [controllerInv_raise]
    · split at h <;> cases h <;> simpa using hs
  | encBlock => simp only [exec, execEncBlock] at h; split at h <;> cases h <;> simpa using hs
  | decBlock => simp only [exec, execDecBlock] at h; split at h <;> cases h <;> simpa using hs
  | padAdd n => simp only [exec, execPadAdd] at h; split at h <;> cases h <;> simpa using hs
  | padCheck => simp only [exec, execPadCheck] at h; split at h <;> cases h <;> simpa using hs
  | keyExpand len =>
    obtain ⟨-, rfl⟩ | ⟨hm, rfl | ⟨r, w, rfl⟩⟩ := execKeyExpand_cases h
    · exact hs
    · rwa [controllerInv_raise, controllerInv_dropSchedule hm]
    · rwa [controllerInv_holdSchedule hm]
  | msgStart a =>
    simp only [exec, execMsgStart] at h
    split at h
    next => cases h; exact hs
    next hcheck => cases h; exact controllerInv_beginMessage hcheck
  | msgBlock =>
    simp only [exec, execMsgBlock] at h
    split at h
    next => cases h; exact hs
    next hm =>
      replace hm : s.msgActive = true := by simpa using hm
      split at h
      · cases h; exact controllerInv_countBlock hs hm ..
      · cases h; exact controllerInv_decryptMsgBlock hs hm
  | msgAbort =>
    simp only [exec, execMsgAbort] at h
    split at h <;> cases h
    · exact controllerInv_endMessage s
    · exact hs

theorem execute_keeps_controllerInv {w : Word} {s t : State} (hs : s.controllerInv = true)
    (h : execute w s = .next t) : t.controllerInv = true := by
  obtain ⟨-, -, rfl⟩ | ⟨-, -, rfl⟩ | ⟨-, -, rfl⟩ | ⟨-, i, -, hx⟩ := execute_cases h
  · exact hs
  · exact hs
  · exact hs
  · exact exec_keeps_controllerInv hs hx

/-- Every step keeps R234's invariants. -/
theorem step_keeps_controllerInv {s t : State} (hs : s.controllerInv = true) (h : step s = .next t) :
    t.controllerInv = true := by
  cases step_cases h with
  | idle _ _ ht => exact ht ▸ hs
  | read _ _ _ _ ht => exact ht ▸ hs
  | write off size v rest _ ht => rw [ht, controllerInv_answer, controllerInv_busWrite]; exact hs
  | reset _ _ ht => rw [ht, controllerInv_resetCore]
  | complete rest _ _ ht =>
    obtain ⟨u, hu, rfl⟩ := coreComplete_eq_next.mp ht
    rw [controllerInv_retire]
    exact execute_keeps_controllerInv (s := { s with inputs := rest }) hs hu

/-! ### Reached states -/

/-- A run of one step and more is a step and a run from there. -/
theorem run_succ_eq_next {n : Nat} {s t : State} (h : core.run (n + 1) s = .next t) :
    ∃ u, step s = .next u ∧ core.run n u = .next t := by
  simp only [Host.Core.run] at h
  split at h
  next u hu => exact ⟨u, hu, h⟩
  next => cases h
  next => cases h

/-- What every step keeps holds in every state that a run reaches. -/
theorem run_keeps {P : State → Prop} (keeps : ∀ s t, P s → step s = .next t → P t) {n : Nat} {s t : State}
    (hs : P s) (h : core.run n s = .next t) : P t := by
  induction n generalizing s with
  | zero => cases h; exact hs
  | succ n ih =>
    obtain ⟨u, hu, hrun⟩ := run_succ_eq_next h
    exact ih (keeps s u hs hu) hrun

/-- Settles O45: the reset state meets the invariants, and every step keeps them. -/
theorem reachedStatesMeetTheControllerInvariants : Obligations.ReachedStatesMeetTheControllerInvariants := by
  intro events n t h
  have reset : ({ State.reset with inputs := events } : State).controllerInv = true := rfl
  have reached : t.controllerInv = true := run_keeps (fun _ _ => step_keeps_controllerInv) reset h
  obtain ⟨active, inactive⟩ := controllerInv_iff.mp reached
  refine ⟨fun hm => ?_, inactive⟩
  obtain ⟨hkey, remains⟩ := active hm
  exact ⟨hkey, Nat.one_le_iff_ne_zero.mpr fun h0 => remains (BitVec.eq_of_toNat_eq h0)⟩

end Sys2Proof.Machine
end

section
/-! PROOF. The closed gate (60_exceptions.md R274). A completion with the gate closed has one law, for the word of CLR_ERR
and for every other word; the steps that leave ERR and OVR are found by the kinds of step. -/

namespace Sys2Proof.Machine

theorem gateClosed_eq_true {s : State} : gateClosed s = true ↔ s.err ≠ .none ∨ s.ovr = true := by
  simp [gateClosed]

/-- With the gate closed a completion performs the word of CLR_ERR and discards every other. -/
theorem coreComplete_of_gateClosed {s : State} (h : gateClosed s = true) :
    coreComplete s = .next (retire (if s.pending = 0x00000001 then clearErrors s else s)) := by
  rw [coreComplete, execute_closed h]
  simp only [decode_eq_clrErr]
  split <;> rfl

/-- A register write reaches neither ERR nor OVR, nor what the bus has answered. -/
theorem writeReg_keeps (r : Reg) (v : Word) (s : State) :
    (writeReg r v s).err = s.err ∧ (writeReg r v s).ovr = s.ovr ∧ (writeReg r v s).replies = s.replies := by
  cases r <;> simp only [writeReg, issue, and_self]

/-- The reply lies outside the registers. -/
theorem readReg_answer (r : Reg) (a : Reply) (s : State) : readReg r (answer a s) = readReg r s := by
  cases r <;> rfl

/-- A write to a register of an idle core is the write of that register and is answered ok (R55). -/
theorem step_of_write_idle {s : State} {r : Reg} {v : Word} {rest : List Event}
    (hi : s.inputs = .write r.offset 32 v :: rest) (hb : s.busy = false) :
    step s = .next (answer .ok (writeReg r v { s with inputs := rest })) := by
  rw [step_of_write hi, busWriteReply_offset, busWrite_offset_idle r v (s := { s with inputs := rest }) hb]

/-- With the gate closed, ERR stays and OVR is not cleared but by a reset or the completion of CLR_ERR. -/
theorem step_keeps_errors_of_gateClosed {s t : State} (hs : gateClosed s = true) (h : step s = .next t) :
    (t.err = s.err ∧ (s.ovr = true → t.ovr = true)) ∨ ResetIsNext s ∨
      ∃ rest, CompletionIsNext s rest ∧ s.pending = 0x00000001 := by
  cases step_cases h with
  | idle _ _ ht => subst ht; exact .inl ⟨rfl, id⟩
  | read _ _ _ _ ht => subst ht; exact .inl ⟨rfl, id⟩
  | write off size v rest _ ht =>
    subst ht
    obtain ⟨-, -, -, herr⟩ := busWrite_keeps off size v { s with inputs := rest }
    exact .inl ⟨herr, busWrite_ovr (s := { s with inputs := rest })⟩
  | reset rest hi _ => exact .inr (.inl ⟨rest, hi⟩)
  | complete rest hi hb hc =>
    by_cases hp : s.pending = 0x00000001
    · exact .inr (.inr ⟨rest, ⟨hb, hi⟩, hp⟩)
    · rw [coreComplete_of_gateClosed (s := { s with inputs := rest }) hs, if_neg hp] at hc
      cases hc
      exact .inl ⟨rfl, id⟩

/-- Settles O4: one law of a completion with the gate closed, one of all steps, and the bus, which the gate does not
touch. -/
theorem closedGateDiscardsCommands : Obligations.ClosedGateDiscardsCommands := by
  refine ⟨fun s rest hc hg => ?completion, fun _ _ hg => step_keeps_errors_of_gateClosed (gateClosed_eq_true.mpr hg),
    fun s r v rest hi hb => ⟨_, step_of_write_idle hi hb, ?write⟩, fun s r rest hi => ⟨_, step_of_read hi, ?read⟩⟩
  case completion =>
    have hclosed : gateClosed { s with inputs := rest } = true := gateClosed_eq_true.mpr hg
    rw [step_of_completionIsNext hc, coreComplete_of_gateClosed hclosed]
    split <;> rfl
  case write =>
    obtain ⟨herr, hovr, hreplies⟩ := writeReg_keeps r v { s with inputs := rest }
    refine ⟨congrArg (Reply.ok :: ·) hreplies, herr, hovr, fun hstores => ?stored, ?issued⟩
    case stored => rw [readReg_answer]; exact readReg_writeReg_same hstores v _
    case issued => rintro rfl; exact ⟨rfl, rfl⟩
  case read => rw [busRead_offset]

end Sys2Proof.Machine
end

section
/-! PROOF. Decoding and encoding undo each other (30_encoding.md sections 1 and 2). `encode_of_decode` is the one half;
here is the other, by the operand form of each command. -/

namespace Sys2Proof.Machine

theorem msgStartForm_of_reserved_zero {a : Byte} (h : a.extractLsb' 2 6 = 0#6) :
    msgStartForm a 0 = .ok (.msgStart a) :=
  msgStartForm_eq_ok.mpr ⟨h, rfl, rfl⟩

/-- A well-formed command is read back from its word. -/
theorem decode_encode {i : Instr} (h : i.wf = true) : decode (encode i) = .ok i := by
  cases i with
  | msgStart a => exact (decode_commandWord 0x50 a 0).trans (msgStartForm_of_reserved_zero (of_decide_eq_true h))
  | gfMul a b => exact decode_commandWord 0x08 a b
  | sbox a | invSbox a | keyExpand a | addRoundKey a | padAdd a => exact decode_commandWord _ a 0
  | nop | clrErr | subBytes | invSubBytes | shiftRows | invShiftRows | mixColumns | invMixColumns | encBlock | decBlock
  | padCheck | msgBlock | msgAbort => rfl

/-- Settles O7: the fields of a command's word are the ones it was built from. -/
theorem decodeReadsBackEveryCommand : Obligations.DecodeReadsBackEveryCommand := fun _ => decode_encode

/-- Settles O8: `encode_of_decode`. -/
theorem encodeWritesBackEveryWord : Obligations.EncodeWritesBackEveryWord := fun _ _ => encode_of_decode

/-- Settles O9: the words that are read are the words of their commands, and the decoder is run on the illegal ones. -/
theorem sampleWordsAreReadAsTheirCommands : Obligations.SampleWordsAreReadAsTheirCommands := by
  unfold Obligations.SampleWordsAreReadAsTheirCommands
  decide

end Sys2Proof.Machine
end

section
/-! PROOF. What a command writes (10_state.md R46, its column "writes"). -/

namespace Sys2Proof.Machine

theorem padCheck_le {x : Block} {c : Nat} (h : padCheck x = some c) : c ≤ 15 := by
  by_cases hp : ∃ p, EndsInPadding x p
  · obtain ⟨p, hp⟩ := hp
    have ⟨hpos, _⟩ := hp
    rw [padCheck_of_endsInPadding hp, Option.some.injEq] at h
    omega
  · rw [padCheck_of_not_endsInPadding hp] at h
    cases h

/-- The counts that go to DOUT_BYTES fit it. -/
theorem toNat_doutCount_le {x : Block} {c : Nat} (h : padCheck x = some c) : (BitVec.ofNat 5 c).toNat ≤ 16 := by
  have small := padCheck_le h
  rw [BitVec.toNat_ofNat]
  omega

/-- What an active message's MSG_BLOCK may do (R236): go on to the next block, end the message with its last block, or
end it with a padding failure. -/
def MsgBlockOutcome (s t : State) : Prop :=
  (s.msgRemain ≠ 1 ∧ ∃ b c, t = { s with chain := c, dout := b, doutBytes := 16, msgRemain := s.msgRemain - 1 }) ∨
  (∃ (b : Block) (n : BitVec 5), n.toNat ≤ 16 ∧ t = endMessage (writeDout b n s)) ∨
  t = paddingFailure s

theorem encryptMsgBlock_outcome (s : State) : MsgBlockOutcome s (encryptMsgBlock s) := by
  by_cases hr : s.msgRemain = 1
  · exact .inr (.inl ⟨_, _, by decide, encryptMsgBlock_of_last hr⟩)
  · exact .inl ⟨hr, _, _, encryptMsgBlock_of_more hr rfl⟩

theorem decryptMsgBlock_outcome (s : State) : MsgBlockOutcome s (decryptMsgBlock s) := by
  by_cases hr : s.msgRemain = 1
  · cases hc : padCheck (chainXor s (decryptBlock s s.din)) with
    | none => exact .inr (.inr (decryptMsgBlock_of_invalidPadding hr hc))
    | some c => exact .inr (.inl ⟨_, _, toNat_doutCount_le hc, decryptMsgBlock_of_padding hr hc⟩)
  · exact .inl ⟨hr, _, _, decryptMsgBlock_of_more hr⟩

theorem exec_msgBlock_cases {s t : State} (h : exec .msgBlock s = .next t) :
    (s.msgActive = false ∧ t = raise .sequence s) ∨ (s.msgActive = true ∧ MsgBlockOutcome s t) := by
  simp only [exec, execMsgBlock] at h
  split at h
  next hm => cases h; exact .inl ⟨by simpa using hm, rfl⟩
  next hm =>
    refine .inr ⟨by simpa using hm, ?_⟩
    split at h <;> cases h
    · exact encryptMsgBlock_outcome s
    · exact decryptMsgBlock_outcome s

/-- Settles O49: each outcome of a command is one of the named updates of the state, and none of them writes more than
R46 lists. -/
theorem commandsWriteOnlyTheirRegisters : Obligations.CommandsWriteOnlyTheirRegisters := by
  intro i s t h
  cases i with
  | nop | clrErr | gfMul | sbox | invSbox => cases h; rfl
  | subBytes | invSubBytes | shiftRows | invShiftRows | mixColumns | invMixColumns => cases h; rfl
  | keyExpand len => obtain ⟨-, rfl⟩ | ⟨-, rfl | ⟨r, w, rfl⟩⟩ := execKeyExpand_cases h <;> rfl
  | addRoundKey n =>
    simp only [exec, execAddRoundKey] at h
    split at h
    · cases h; rfl
    · split at h <;> cases h <;> rfl
  | encBlock => simp only [exec, execEncBlock] at h; split at h <;> cases h <;> rfl
  | decBlock => simp only [exec, execDecBlock] at h; split at h <;> cases h <;> rfl
  | padAdd n => simp only [exec, execPadAdd] at h; split at h <;> cases h <;> rfl
  | padCheck => simp only [exec, execPadCheck] at h; split at h <;> cases h <;> rfl
  | msgStart a =>
    simp only [exec, execMsgStart] at h
    split at h <;> cases h
    · rfl
    · rw [beginMessage_eq]
  | msgBlock =>
    obtain ⟨-, rfl⟩ | ⟨-, ⟨-, b, c, rfl⟩ | ⟨b, n, -, rfl⟩ | rfl⟩ := exec_msgBlock_cases h <;> rfl
  | msgAbort => simp only [exec, execMsgAbort] at h; split at h <;> cases h <;> rfl
end Sys2Proof.Machine
end

section
/-! PROOF. What a command's effect depends on (10_state.md R46, its column "reads"). Each command has a law for each
outcome of its checks; under agreement on the registers read, both states meet the same law, and the law writes the same
values. -/

namespace Sys2Proof.Machine

section
variable {i : Instr} {s u t v : State}

theorem outcome_unique {o : Result} (h : o = .next s) (h' : o = .next t) : s = t := by
  cases h.symm.trans h'
  rfl

variable (hs : exec i s = .next t) (hu : exec i u = .next v)
include hs hu

theorem bothRaise_of_exec {c : ErrCode} (hc : c ≠ .none) (raises : exec i s = .next (raise c s))
    (raises' : exec i u = .next (raise c u)) : BothRaise s u t v :=
  ⟨c, hc, outcome_unique hs raises, outcome_unique hu raises'⟩

theorem bothWriteState_of_exec {b : Block} (writes : exec i s = .next (writeState b s))
    (writes' : exec i u = .next (writeState b u)) : BothWriteState s u t v :=
  ⟨b, outcome_unique hs writes, outcome_unique hu writes'⟩

theorem bothWriteResult_of_exec {r : Byte} (writes : exec i s = .next (writeResult r s))
    (writes' : exec i u = .next (writeResult r u)) : BothWriteResult s u t v :=
  ⟨r, outcome_unique hs writes, outcome_unique hu writes'⟩

end

/-! ### The commands with a check -/

section
variable {s u t v : State}

/-- KEY_EXPAND outside a message: the same schedule from the same KEY, or the same drop of the schedule (R147). -/
theorem exec_keyExpand_reads {len : Byte} (hs : exec (.keyExpand len) s = .next t)
    (hu : exec (.keyExpand len) u = .next v) (hkey : s.key = u.key) (hm : s.msgActive = false)
    (hm' : u.msgActive = false) :
    (∃ w r k, t = { s with rkw := w, nr := r, keyValid := k } ∧ v = { u with rkw := w, nr := r, keyValid := k }) ∨
    (∃ w r k e, e ≠ .none ∧ t = { s with rkw := w, nr := r, keyValid := k, err := e } ∧
      v = { u with rkw := w, nr := r, keyValid := k, err := e }) := by
  by_cases hlen : KeyLength len.toNat
  · obtain ⟨r, hr, -⟩ := roundsOfLength_of_keyLength hlen
    have holds := outcome_unique hu (exec_keyExpand_of_rounds hm' hr)
    rw [← hkey] at holds
    exact .inl ⟨_, r, true, outcome_unique hs (exec_keyExpand_of_rounds hm hr), holds⟩
  · exact .inr ⟨_, .none, false, .invalidKeyLength, by decide, outcome_unique hs (exec_keyExpand_of_badLength hm hlen),
      outcome_unique hu (exec_keyExpand_of_badLength hm' hlen)⟩

theorem exec_addRoundKey_reads {n : Byte} (hs : exec (.addRoundKey n) s = .next t)
    (hu : exec (.addRoundKey n) u = .next v) (hstate : s.state = u.state) (hrkw : s.rkw = u.rkw)
    (hkey : s.keyValid = u.keyValid) (hnr : s.nr = u.nr) : BothRaise s u t v ∨ BothWriteState s u t v := by
  obtain hk | hk := Bool.eq_false_or_eq_true s.keyValid
  · by_cases hn : n.toNat ≤ s.nr.count
    · refine .inr (bothWriteState_of_exec hs hu (exec_addRoundKey_of_le hk hn) ?_)
      rw [hstate, hrkw]
      exact exec_addRoundKey_of_le (hkey ▸ hk) (hnr ▸ hn)
    · exact .inl (bothRaise_of_exec hs hu (by decide) (exec_addRoundKey_of_gt hk (not_le.mp hn))
        (exec_addRoundKey_of_gt (hkey ▸ hk) (hnr ▸ not_le.mp hn)))
  · exact .inl (bothRaise_of_exec hs hu (by decide) (exec_addRoundKey_of_noKey hk)
      (exec_addRoundKey_of_noKey (hkey ▸ hk)))

theorem exec_encBlock_reads (hs : exec .encBlock s = .next t) (hu : exec .encBlock u = .next v)
    (hstate : s.state = u.state) (hrkw : s.rkw = u.rkw) (hkey : s.keyValid = u.keyValid) (hnr : s.nr = u.nr) :
    BothRaise s u t v ∨ BothWriteState s u t v := by
  obtain hk | hk := Bool.eq_false_or_eq_true s.keyValid
  · exact .inr (bothWriteState_of_exec hs hu (exec_encBlock_of_keyValid hk rfl)
      (exec_encBlock_of_keyValid (hkey ▸ hk) (by rw [hstate, hrkw, hnr])))
  · exact .inl (bothRaise_of_exec hs hu (by decide) (exec_encBlock_of_noKey hk) (exec_encBlock_of_noKey (hkey ▸ hk)))

theorem exec_decBlock_reads (hs : exec .decBlock s = .next t) (hu : exec .decBlock u = .next v)
    (hstate : s.state = u.state) (hrkw : s.rkw = u.rkw) (hkey : s.keyValid = u.keyValid) (hnr : s.nr = u.nr) :
    BothRaise s u t v ∨ BothWriteState s u t v := by
  obtain hk | hk := Bool.eq_false_or_eq_true s.keyValid
  · exact .inr (bothWriteState_of_exec hs hu (exec_decBlock_of_keyValid hk rfl)
      (exec_decBlock_of_keyValid (hkey ▸ hk) (by rw [hstate, hrkw, hnr])))
  · exact .inl (bothRaise_of_exec hs hu (by decide) (exec_decBlock_of_noKey hk) (exec_decBlock_of_noKey (hkey ▸ hk)))

theorem exec_padAdd_reads {n : Byte} (hs : exec (.padAdd n) s = .next t) (hu : exec (.padAdd n) u = .next v)
    (hstate : s.state = u.state) : BothRaise s u t v ∨ BothWriteState s u t v := by
  by_cases hn : n.toNat ≤ 15
  · exact .inr (bothWriteState_of_exec hs hu (exec_padAdd_of_le hn rfl) (exec_padAdd_of_le hn (by rw [hstate])))
  · exact .inl (bothRaise_of_exec hs hu (by decide) (exec_padAdd_of_gt (not_le.mp hn) s)
      (exec_padAdd_of_gt (not_le.mp hn) u))

theorem exec_padCheck_reads (hs : exec .padCheck s = .next t) (hu : exec .padCheck u = .next v)
    (hstate : s.state = u.state) : BothRaise s u t v ∨ BothWriteResult s u t v := by
  cases hc : padCheck s.state with
  | none =>
    exact .inl (bothRaise_of_exec hs hu (by decide) (exec_padCheck_of_none hc) (exec_padCheck_of_none (hstate ▸ hc)))
  | some c =>
    exact .inr (bothWriteResult_of_exec hs hu (exec_padCheck_of_some hc) (exec_padCheck_of_some (hstate ▸ hc)))

end

/-! ### MSG_START -/

/-- From `s` and from `u` the same values come to stand in the registers that R46 lists as written by MSG_START. -/
def BothBeginMessage (s u t v : State) : Prop :=
  ∃ act dir mode remain tail chain iv wr dout n,
    t = { s with
      msgActive := act, msgDir := dir, msgMode := mode, msgRemain := remain, msgTail := tail, chain := chain,
      iv := iv, ivWr := wr, dout := dout, doutBytes := n } ∧
    v = { u with
      msgActive := act, msgDir := dir, msgMode := mode, msgRemain := remain, msgTail := tail, chain := chain,
      iv := iv, ivWr := wr, dout := dout, doutBytes := n }

theorem bothBeginMessage_beginMessage {s u : State} (hlen : s.msgLen = u.msgLen) (hiv : s.iv = u.iv)
    (hivWr : s.ivWr = u.ivWr) (dir : Dir) (mode : Mode) :
    BothBeginMessage s u (beginMessage dir mode s) (beginMessage dir mode u) :=
  ⟨_, _, _, _, _, _, _, _, _, _, beginMessage_eq dir mode s, by rw [beginMessage_eq, hlen, hiv, hivWr]⟩

theorem msgStartCheck_ne_some_none (dir : Dir) (mode : Mode) (s : State) : msgStartCheck dir mode s ≠ some .none := by
  unfold msgStartCheck
  repeat' split
  all_goals decide

theorem exec_msgStart_reads {a : Byte} {s u t v : State} (hs : exec (.msgStart a) s = .next t)
    (hu : exec (.msgStart a) u = .next v) (hlen : s.msgLen = u.msgLen) (hiv : s.iv = u.iv) (hivWr : s.ivWr = u.ivWr)
    (hkey : s.keyValid = u.keyValid) (hactive : s.msgActive = u.msgActive) :
    BothRaise s u t v ∨ BothBeginMessage s u t v := by
  have check : msgStartCheck (msgDirOf a) (msgModeOf a) s = msgStartCheck (msgDirOf a) (msgModeOf a) u := by
    simp only [msgStartCheck, hlen, hivWr, hkey, hactive]
  cases hc : msgStartCheck (msgDirOf a) (msgModeOf a) s with
  | some c =>
    have recorded : c ≠ .none := by rintro rfl; exact msgStartCheck_ne_some_none _ _ _ hc
    exact .inl (bothRaise_of_exec hs hu recorded (exec_msgStart_of_check_eq_some hc)
      (exec_msgStart_of_check_eq_some (check ▸ hc)))
  | none =>
    obtain rfl := outcome_unique hs (exec_msgStart_of_check_eq_none hc)
    obtain rfl := outcome_unique hu (exec_msgStart_of_check_eq_none (check ▸ hc))
    exact .inr (bothBeginMessage_beginMessage hlen hiv hivWr ..)

/-! ### MSG_BLOCK and MSG_ABORT -/

/-- The registers that R46 lists as read by MSG_BLOCK are equal. -/
structure SameMessage (s u : State) : Prop where
  din : s.din = u.din
  chain : s.chain = u.chain
  rkw : s.rkw = u.rkw
  nr : s.nr = u.nr
  active : s.msgActive = u.msgActive
  dir : s.msgDir = u.msgDir
  mode : s.msgMode = u.msgMode
  remain : s.msgRemain = u.msgRemain
  tail : s.msgTail = u.msgTail

/-- From `s` and from `u` the same values come to stand in the registers that R46 lists as written by MSG_BLOCK. -/
def BothWriteMessage (s u t v : State) : Prop :=
  ∃ dout n chain remain act dir mode tail,
    t = { s with
      dout := dout, doutBytes := n, chain := chain, msgRemain := remain, msgActive := act, msgDir := dir,
      msgMode := mode, msgTail := tail } ∧
    v = { u with
      dout := dout, doutBytes := n, chain := chain, msgRemain := remain, msgActive := act, msgDir := dir,
      msgMode := mode, msgTail := tail }

/-- As `BothWriteMessage`, with an error recorded besides. -/
def BothFailMessage (s u t v : State) : Prop :=
  ∃ dout n chain remain act dir mode tail e, e ≠ ErrCode.none ∧
    t = { s with
      dout := dout, doutBytes := n, chain := chain, msgRemain := remain, msgActive := act, msgDir := dir,
      msgMode := mode, msgTail := tail, err := e } ∧
    v = { u with
      dout := dout, doutBytes := n, chain := chain, msgRemain := remain, msgActive := act, msgDir := dir,
      msgMode := mode, msgTail := tail, err := e }

section
variable {s u : State}

theorem bothWriteMessage_endMessage (b : Block) (n : BitVec 5) :
    BothWriteMessage s u (endMessage (writeDout b n s)) (endMessage (writeDout b n u)) :=
  ⟨b, n, zeroBlock, 0, false, .enc, .ecb, 0, rfl, rfl⟩

theorem bothFailMessage_paddingFailure : BothFailMessage s u (paddingFailure s) (paddingFailure u) :=
  ⟨zeroBlock, 0, zeroBlock, 0, false, .enc, .ecb, 0, .invalidPadding, by decide, rfl, rfl⟩

variable (h : SameMessage s u)
include h

/-- The state after a block that is not the last. -/
theorem SameMessage.bothWriteMessage_more (b : Block) {c c' : Block} (hc : c = c') :
    BothWriteMessage s u
      { s with
        chain := if s.msgMode = .cbc then c else s.chain, dout := b, doutBytes := 16, msgRemain := s.msgRemain - 1 }
      { u with
        chain := if u.msgMode = .cbc then c' else u.chain, dout := b, doutBytes := 16,
        msgRemain := u.msgRemain - 1 } := by
  refine ⟨b, 16, _, _, s.msgActive, s.msgDir, s.msgMode, s.msgTail, rfl, ?_⟩
  rw [hc, h.chain, h.active, h.dir, h.mode, h.remain, h.tail]

theorem SameMessage.chainXor_congr (x : Block) : chainXor s x = chainXor u x := by
  rw [chainXor_eq, chainXor_eq, h.mode, h.chain]

theorem SameMessage.encryptBlock_congr (x : Block) : encryptBlock s x = encryptBlock u x := by
  rw [encryptBlock, encryptBlock, h.nr, h.rkw]

theorem SameMessage.decryptBlock_congr (x : Block) : decryptBlock s x = decryptBlock u x := by
  rw [decryptBlock, decryptBlock, h.nr, h.rkw]

theorem SameMessage.bothWrite_encryptMsgBlock : BothWriteMessage s u (encryptMsgBlock s) (encryptMsgBlock u) := by
  by_cases hr : s.msgRemain = 1
  · rw [encryptMsgBlock_of_last hr, encryptMsgBlock_of_last (h.remain ▸ hr), h.encryptBlock_congr, h.chainXor_congr, h.din,
      h.tail]
    exact bothWriteMessage_endMessage ..
  · have block : encryptBlock s (chainXor s s.din) = encryptBlock u (chainXor u u.din) := by
      rw [h.encryptBlock_congr, h.chainXor_congr, h.din]
    rw [encryptMsgBlock_of_more hr block, encryptMsgBlock_of_more (h.remain ▸ hr) rfl]
    exact h.bothWriteMessage_more _ rfl

theorem SameMessage.bothWriteOrFail_decryptMsgBlock :
    BothWriteMessage s u (decryptMsgBlock s) (decryptMsgBlock u) ∨
      BothFailMessage s u (decryptMsgBlock s) (decryptMsgBlock u) := by
  have block : chainXor s (decryptBlock s s.din) = chainXor u (decryptBlock u u.din) := by
    rw [h.chainXor_congr, h.decryptBlock_congr, h.din]
  by_cases hr : s.msgRemain = 1
  · have hr' : u.msgRemain = 1 := h.remain ▸ hr
    cases hc : padCheck (chainXor s (decryptBlock s s.din)) with
    | none =>
      rw [decryptMsgBlock_of_invalidPadding hr hc, decryptMsgBlock_of_invalidPadding hr' (block ▸ hc)]
      exact .inr bothFailMessage_paddingFailure
    | some c =>
      rw [decryptMsgBlock_of_padding hr hc, decryptMsgBlock_of_padding hr' (block ▸ hc), block]
      exact .inl (bothWriteMessage_endMessage ..)
  · rw [decryptMsgBlock_of_more hr, decryptMsgBlock_of_more (h.remain ▸ hr), block]
    exact .inl (h.bothWriteMessage_more _ h.din)

end

theorem exec_msgBlock_reads {s u t v : State} (same : SameMessage s u) (hs : exec .msgBlock s = .next t)
    (hu : exec .msgBlock u = .next v) : BothRaise s u t v ∨ BothWriteMessage s u t v ∨ BothFailMessage s u t v := by
  obtain hm | hm := Bool.eq_false_or_eq_true s.msgActive
  · refine .inr ?_
    cases hd : s.msgDir with
    | enc =>
      obtain rfl := outcome_unique hs (exec_msgBlock_of_enc hm hd)
      obtain rfl := outcome_unique hu (exec_msgBlock_of_enc (same.active ▸ hm) (same.dir ▸ hd))
      exact .inl same.bothWrite_encryptMsgBlock
    | dec =>
      obtain rfl := outcome_unique hs (exec_msgBlock_of_dec hm hd)
      obtain rfl := outcome_unique hu (exec_msgBlock_of_dec (same.active ▸ hm) (same.dir ▸ hd))
      exact same.bothWriteOrFail_decryptMsgBlock
  · exact .inl (bothRaise_of_exec hs hu (by decide) (exec_msgBlock_of_inactive hm)
      (exec_msgBlock_of_inactive (same.active ▸ hm)))

/-! ### All commands -/

/-- Settles O50: under agreement on the registers read, both states meet the same law of the command. -/
theorem commandsReadOnlyTheirRegisters : Obligations.CommandsReadOnlyTheirRegisters := by
  intro i s u t v hs hu
  cases i with
  | nop => exact ⟨outcome_unique hs rfl, outcome_unique hu rfl⟩
  | clrErr => exact ⟨.none, false, outcome_unique hs rfl, outcome_unique hu rfl⟩
  | gfMul | sbox | invSbox => exact bothWriteResult_of_exec hs hu rfl rfl
  | keyExpand len =>
    intro hkey hactive
    obtain hm | hm := Bool.eq_false_or_eq_true s.msgActive
    · exact .inl (bothRaise_of_exec hs hu (by decide) (exec_keyExpand_of_msgActive hm)
        (exec_keyExpand_of_msgActive (hactive ▸ hm)))
    · exact .inr (exec_keyExpand_reads hs hu hkey hm (hactive ▸ hm))
  | subBytes | invSubBytes | shiftRows | invShiftRows | mixColumns | invMixColumns =>
    intro hstate
    exact bothWriteState_of_exec hs hu rfl (hstate ▸ rfl)
  | addRoundKey n => exact exec_addRoundKey_reads hs hu
  | encBlock => exact exec_encBlock_reads hs hu
  | decBlock => exact exec_decBlock_reads hs hu
  | padAdd n => exact exec_padAdd_reads hs hu
  | padCheck => exact exec_padCheck_reads hs hu
  | msgStart a => exact exec_msgStart_reads hs hu
  | msgBlock =>
    intro hdin hchain hrkw hnr hactive hdir hmode hremain htail
    exact exec_msgBlock_reads ⟨hdin, hchain, hrkw, hnr, hactive, hdir, hmode, hremain, htail⟩ hs hu
  | msgAbort =>
    intro hactive
    obtain hm | hm := Bool.eq_false_or_eq_true s.msgActive
    · exact .inr ⟨false, .enc, .ecb, 0, 0, zeroBlock, 0, outcome_unique hs (exec_msgAbort_of_active hm),
        outcome_unique hu (exec_msgAbort_of_active (hactive ▸ hm))⟩
    · exact .inl ⟨outcome_unique hs (exec_msgAbort_of_inactive hm),
        outcome_unique hu (exec_msgAbort_of_inactive (hactive ▸ hm))⟩

end Sys2Proof.Machine
end

section
/-! PROOF. The invariant of the core (46_modes.md R234; 10_state.md R22, R23, R34, R36, R43). A step leaves the schedule
alone, drops it, or holds the schedule of a key: what is asked of the store, of NR and of KEY_VALID follows from these
three outcomes. The bounds of the message and the empty latch are kept by every step, as R234's invariants are. -/

namespace Sys2Proof.Machine

/-! ### What a step does to the schedule -/

/-- The schedule is as it was, dropped, or that of some key (R37, R147). -/
def ScheduleOutcome (s t : State) : Prop :=
  (t.rkw = s.rkw ∧ t.nr = s.nr ∧ t.keyValid = s.keyValid) ∨
  (t.rkw = Vector.replicate 60 0#32 ∧ t.nr = .none ∧ t.keyValid = false) ∨
  (∃ (key : Vector Byte 32) (len : Nat),
    roundsOfLength len = some t.nr ∧ t.rkw = storeOf (keyExpansion t.nr (keyWordsOf key len)) ∧ t.keyValid = true)

theorem exec_scheduleOutcome {i : Instr} {s t : State} (h : exec i s = .next t) : ScheduleOutcome s t := by
  obtain hf | ⟨len, rfl, hm, -⟩ := exec_commandFrame h
  · exact .inl (schedule_of_commandFrame_eq hf)
  · by_cases hlen : KeyLength len.toNat
    · obtain ⟨r, hr, -⟩ := roundsOfLength_of_keyLength hlen
      obtain rfl := outcome_unique h (exec_keyExpand_of_rounds hm hr)
      exact .inr (.inr ⟨s.key, len.toNat, hr, rfl, rfl⟩)
    · obtain rfl := outcome_unique h (exec_keyExpand_of_badLength hm hlen)
      exact .inr (.inl ⟨rfl, rfl, rfl⟩)

theorem execute_scheduleOutcome {w : Word} {s t : State} (h : execute w s = .next t) : ScheduleOutcome s t := by
  obtain ⟨-, -, rfl⟩ | ⟨-, -, rfl⟩ | ⟨-, -, rfl⟩ | ⟨-, i, -, hx⟩ := execute_cases h
  · exact .inl ⟨rfl, rfl, rfl⟩
  · exact .inl ⟨rfl, rfl, rfl⟩
  · exact .inl ⟨rfl, rfl, rfl⟩
  · exact exec_scheduleOutcome hx

theorem step_scheduleOutcome {s t : State} (h : step s = .next t) : ScheduleOutcome s t := by
  cases step_cases h with
  | idle _ _ ht => subst ht; exact .inl ⟨rfl, rfl, rfl⟩
  | read _ _ _ _ ht => subst ht; exact .inl ⟨rfl, rfl, rfl⟩
  | write off size v rest _ ht =>
    subst ht
    obtain ⟨hrkw, hnr, hkey, -⟩ := busWrite_keeps off size v { s with inputs := rest }
    exact .inl ⟨hrkw, hnr, hkey⟩
  | reset _ _ ht => subst ht; exact .inr (.inl ⟨rfl, rfl, rfl⟩)
  | complete rest _ _ ht =>
    obtain ⟨u, hu, rfl⟩ := coreComplete_eq_next.mp ht
    have outcome := execute_scheduleOutcome hu
    exact outcome

/-- Settles O44: only the third outcome makes KEY_VALID 1 anew, and it names the key. -/
theorem stepKeepsTheScheduleOfSomeKey : Obligations.StepKeepsTheScheduleOfSomeKey := by
  intro s t hs h hvalid
  obtain ⟨hrkw, hnr, hkey⟩ | ⟨-, -, hkey⟩ | ⟨key, len, hlen, hrkw, -⟩ := step_scheduleOutcome h
  · rw [hrkw, hnr]
    exact hs (hkey ▸ hvalid)
  · exact absurd (hkey.symm.trans hvalid) (by decide)
  · exact ⟨key, len, hlen, hrkw⟩

/-! ### NR and the store -/

theorem roundsOfLength_ne_some_none (len : Nat) : roundsOfLength len ≠ some .none := by
  unfold roundsOfLength
  repeat' split
  all_goals decide

theorem keyLength_of_roundsOfLength {len : Nat} {r : Rounds} (h : roundsOfLength len = some r) :
    KeyLength len ∧ r.count = len / 4 + 6 := by
  have accepted : KeyLength len := by
    by_contra hlen
    rw [roundsOfLength_of_not_keyLength hlen] at h
    cases h
  obtain ⟨r', hr', hcount⟩ := roundsOfLength_of_keyLength accepted
  obtain rfl := Option.some.inj (h.symm.trans hr')
  exact ⟨accepted, hcount⟩

/-- R23 for NR: it is 0 exactly when no schedule is held. -/
def State.NrShowsKey (s : State) : Prop := s.nr = .none ↔ s.keyValid = false

theorem ScheduleOutcome.nrShowsKey {s t : State} (h : ScheduleOutcome s t) (hs : s.NrShowsKey) : t.NrShowsKey := by
  unfold State.NrShowsKey at hs ⊢
  obtain ⟨-, hnr, hkey⟩ | ⟨-, hnr, hkey⟩ | ⟨key, len, hlen, -, hkey⟩ := h
  · rwa [hnr, hkey]
  · simp [hnr, hkey]
  · have held : t.nr ≠ .none := fun h0 => roundsOfLength_ne_some_none len (h0 ▸ hlen)
    simp [held, hkey]

theorem storeInv_iff {s : State} :
    s.storeInv = true ↔ ∀ i < 60, ¬ (s.keyValid = true ∧ i < 4 * (s.nr.count + 1)) → s.rkw.getD i 0 = 0#32 := by
  simp [State.storeInv, or_iff_not_imp_left]

/-- R146: the store of a schedule is zero beyond the schedule's words. -/
theorem getD_storeOf_of_ge {w : List Word} {i : Nat} (h : w.length ≤ i) : (storeOf w).getD i 0 = 0#32 := by
  by_cases hi : i < 60 <;> simp [Vector.getD, storeOf, hi, h]

theorem ScheduleOutcome.storeInv {s t : State} (h : ScheduleOutcome s t) (hs : s.storeInv = true) :
    t.storeInv = true := by
  rw [storeInv_iff] at hs ⊢
  obtain ⟨hrkw, hnr, hkey⟩ | ⟨hrkw, -, -⟩ | ⟨key, len, hlen, hrkw, hkey⟩ := h
  · rwa [hrkw, hnr, hkey]
  · intro i hi _
    simp [hrkw, Vector.getD, hi]
  · intro i _ beyond
    obtain ⟨accepted, hcount⟩ := keyLength_of_roundsOfLength hlen
    have words : (keyExpansion t.nr (keyWordsOf key len)).length = 4 * (t.nr.count + 1) :=
      length_keyExpansion (by rw [length_keyWordsOf]; omega)
    rw [hrkw, getD_storeOf_of_ge (by rw [words]; exact not_lt.mp fun hi => beyond ⟨hkey, hi⟩)]

/-! ### The bounds of the message -/

/-- R23 for DOUT_BYTES and R235's bound: at most 16 bytes and at most 2^28 blocks. -/
def State.MessageBounds (s : State) : Prop := s.doutBytes.toNat ≤ 16 ∧ s.msgRemain.toNat ≤ 0x10000000

theorem messageBounds_of_eq {s t : State} (hs : s.MessageBounds) (hdout : t.doutBytes = s.doutBytes)
    (hremain : t.msgRemain = s.msgRemain) : t.MessageBounds := by
  unfold State.MessageBounds
  rwa [hdout, hremain]

/-- A message of 2^32 - 1 bytes has 2^28 blocks. -/
theorem messageBounds_beginMessage (dir : Dir) (mode : Mode) (s : State) :
    (beginMessage dir mode s).MessageBounds := by
  have small : s.msgLen.toNat < 2 ^ 32 := s.msgLen.isLt
  rw [beginMessage_eq]
  refine ⟨Nat.zero_le _, ?_⟩
  cases dir with
  | enc =>
    change (s.msgLen.toNat / 16 + 1) % 2 ^ 29 ≤ 0x10000000
    omega
  | dec =>
    change s.msgLen.toNat / 16 % 2 ^ 29 ≤ 0x10000000
    omega

/-- An active message has a block to go, so that taking one off does not wrap. -/
theorem MsgBlockOutcome.messageBounds {s t : State} (h : MsgBlockOutcome s t) (hs : s.MessageBounds)
    (hr : s.msgRemain ≠ 0) : t.MessageBounds := by
  obtain ⟨hdout, hremain⟩ := hs
  obtain ⟨-, b, c, rfl⟩ | ⟨b, n, hn, rfl⟩ | rfl := h
  · refine ⟨(by decide : (16#5).toNat ≤ 16), ?_⟩
    change (s.msgRemain - 1).toNat ≤ 0x10000000
    bv_omega
  · exact ⟨hn, Nat.zero_le _⟩
  · exact ⟨Nat.zero_le _, Nat.zero_le _⟩

theorem exec_keeps_messageBounds {i : Instr} {s t : State} (hc : s.controllerInv = true) (hs : s.MessageBounds)
    (h : exec i s = .next t) : t.MessageBounds := by
  cases i with
  | msgStart a =>
    cases hcheck : msgStartCheck (msgDirOf a) (msgModeOf a) s with
    | none =>
      obtain rfl := outcome_unique h (exec_msgStart_of_check_eq_none hcheck)
      exact messageBounds_beginMessage ..
    | some c =>
      obtain rfl := outcome_unique h (exec_msgStart_of_check_eq_some hcheck)
      exact hs
  | msgBlock =>
    obtain ⟨-, rfl⟩ | ⟨hm, ht⟩ := exec_msgBlock_cases h
    · exact hs
    · obtain ⟨hactive, -⟩ := controllerInv_iff.mp hc
      obtain ⟨-, hr⟩ := hactive hm
      exact ht.messageBounds hs hr
  | msgAbort =>
    obtain hm | hm := Bool.eq_false_or_eq_true s.msgActive
    · obtain rfl := outcome_unique h (exec_msgAbort_of_active hm)
      exact ⟨Nat.zero_le _, Nat.zero_le _⟩
    · obtain rfl := outcome_unique h (exec_msgAbort_of_inactive hm)
      exact hs
  | _ =>
    have frame := commandsWriteOnlyTheirRegisters _ s t h
    have hdout := congrArg State.doutBytes frame
    have hremain := congrArg State.msgRemain frame
    exact messageBounds_of_eq hs hdout hremain

theorem execute_keeps_messageBounds {w : Word} {s t : State} (hc : s.controllerInv = true) (hs : s.MessageBounds)
    (h : execute w s = .next t) : t.MessageBounds := by
  obtain ⟨-, -, rfl⟩ | ⟨-, -, rfl⟩ | ⟨-, -, rfl⟩ | ⟨-, i, -, hx⟩ := execute_cases h
  · exact hs
  · exact hs
  · exact hs
  · exact exec_keeps_messageBounds hc hs hx

theorem writeReg_keeps_counts (r : Reg) (v : Word) (s : State) :
    (writeReg r v s).doutBytes = s.doutBytes ∧ (writeReg r v s).msgRemain = s.msgRemain := by
  cases r <;> simp only [writeReg, issue, and_self]

theorem busWrite_keeps_messageBounds {off size : Nat} {v : Word} {s : State} (hs : s.MessageBounds) :
    (busWrite off size v s).MessageBounds := by
  obtain ⟨-, h⟩ | ⟨r, -, -, h⟩ | ⟨r, -, -, h⟩ := busWrite_cases off size v s <;> rw [h]
  · exact hs
  · exact hs
  · obtain ⟨hdout, hremain⟩ := writeReg_keeps_counts r v s
    exact messageBounds_of_eq hs hdout hremain

theorem step_keeps_messageBounds {s t : State} (hc : s.controllerInv = true) (hs : s.MessageBounds)
    (h : step s = .next t) : t.MessageBounds := by
  cases step_cases h with
  | idle _ _ ht => exact ht ▸ hs
  | read _ _ _ _ ht => exact ht ▸ hs
  | write off size v rest _ ht =>
    subst ht
    exact busWrite_keeps_messageBounds (s := { s with inputs := rest }) hs
  | reset _ _ ht => subst ht; exact ⟨Nat.zero_le _, Nat.zero_le _⟩
  | complete rest _ _ ht =>
    obtain ⟨u, hu, rfl⟩ := coreComplete_eq_next.mp ht
    have bounds := execute_keeps_messageBounds (s := { s with inputs := rest }) hc hs hu
    exact bounds

/-! ### The latch -/

/-- R43: PENDING is 0 while the core is idle. -/
def State.LatchEmptyWhileIdle (s : State) : Prop := s.busy = true ∨ s.pending = 0

/-- Only an issue fills the latch, and it sets BUSY (R25). -/
theorem writeReg_keeps_latch {r : Reg} {v : Word} {s : State} (hs : s.LatchEmptyWhileIdle) :
    (writeReg r v s).LatchEmptyWhileIdle := by
  unfold State.LatchEmptyWhileIdle at hs ⊢
  cases r with
  | cmd => exact .inl rfl
  | _ => simpa only [writeReg] using hs

theorem busWrite_keeps_latch {off size : Nat} {v : Word} {s : State} (hs : s.LatchEmptyWhileIdle) :
    (busWrite off size v s).LatchEmptyWhileIdle := by
  obtain ⟨-, h⟩ | ⟨r, -, -, h⟩ | ⟨r, -, -, h⟩ := busWrite_cases off size v s <;> rw [h]
  · exact hs
  · exact hs
  · exact writeReg_keeps_latch hs

theorem step_keeps_latch {s t : State} (hs : s.LatchEmptyWhileIdle) (h : step s = .next t) :
    t.LatchEmptyWhileIdle := by
  cases step_cases h with
  | idle _ _ ht => exact ht ▸ hs
  | read _ _ _ _ ht => exact ht ▸ hs
  | write off size v rest _ ht =>
    subst ht
    exact busWrite_keeps_latch (s := { s with inputs := rest }) hs
  | reset _ _ ht => subst ht; exact .inr rfl
  | complete _ _ _ ht =>
    obtain ⟨u, -, rfl⟩ := coreComplete_eq_next.mp ht
    exact .inr rfl

/-! ### The invariant -/

theorem inv_iff {s : State} :
    s.Inv ↔ s.controllerInv = true ∧ s.NrShowsKey ∧ s.storeInv = true ∧ s.MessageBounds ∧ s.LatchEmptyWhileIdle := by
  simp only [State.Inv, State.statusInv, State.latchInv, State.NrShowsKey, State.MessageBounds,
    State.LatchEmptyWhileIdle, Bool.and_eq_true, Bool.or_eq_true, decide_eq_true_eq]
  tauto

/-- Settles O42: every register of the reset state is 0. -/
theorem resetMeetsTheInvariant : Obligations.ResetMeetsTheInvariant := by
  refine ⟨?_, nofun⟩
  unfold State.Inv
  decide +kernel

/-- Settles O43: each part of the invariant is kept, the bounds of the message with the help of R234's invariants. -/
theorem stepKeepsTheInvariant : Obligations.StepKeepsTheInvariant := by
  intro s t hs h
  obtain ⟨hcontroller, hnr, hstore, hbounds, hlatch⟩ := inv_iff.mp hs
  have schedule := step_scheduleOutcome h
  exact inv_iff.mpr ⟨step_keeps_controllerInv hcontroller h, schedule.nrShowsKey hnr, schedule.storeInv hstore,
    step_keeps_messageBounds hcontroller hbounds h, step_keeps_latch hlatch h⟩

end Sys2Proof.Machine
end

section
/-! PROOF. Reset, completions and hazards (70_reset_and_hazards.md; 40_control.md R100). By R46 no command reads or
writes BUSY, PENDING and the environment's two lists: so reads before a completion do not change what it does, and a
step does not depend on what comes after it. -/

namespace Sys2Proof.Machine

/-! ### The fields of STATUS -/

section
variable (s : State)

theorem statusWord_bits :
    (statusWord s).getLsbD 0 = s.busy ∧ (statusWord s).getLsbD 1 = s.keyValid ∧
    (statusWord s).getLsbD 2 = s.msgActive ∧ (statusWord s).getLsbD 3 = (dirBit s.msgDir).getLsbD 0 ∧
    (statusWord s).getLsbD 4 = (modeBit s.msgMode).getLsbD 0 ∧ (statusWord s).getLsbD 5 = s.ovr := by
  simp only [statusWord, BitVec.getLsbD_append]
  simp

theorem statusWord_fields :
    (statusWord s).extractLsb' 6 2 = 0 ∧ (statusWord s).extractLsb' 8 4 = s.err.code ∧
    (statusWord s).extractLsb' 12 4 = s.nr.bits ∧ (statusWord s).extractLsb' 16 5 = s.doutBytes ∧
    (statusWord s).extractLsb' 21 3 = 0 ∧ (statusWord s).extractLsb' 24 4 = s.ivWr ∧
    (statusWord s).extractLsb' 28 4 = 0 := by
  simp (disch := omega) only [statusWord, BitVec.extractLsb'_append_eq_of_le, BitVec.extractLsb'_append_eq_of_add_le]
  exact ⟨rfl, BitVec.extractLsb'_eq_self, BitVec.extractLsb'_eq_self, BitVec.extractLsb'_eq_self, rfl,
    BitVec.extractLsb'_eq_self, rfl⟩

end

/-- Settles O56: the fields of `statusWord`, with their codes read as numbers. -/
theorem statusShowsItsFields : Obligations.StatusShowsItsFields := by
  intro s
  obtain ⟨hbusy, hkey, hactive, hdir, hmode, hovr⟩ := statusWord_bits s
  obtain ⟨h6, herr, hnr, hdout, h21, hivWr, h28⟩ := statusWord_fields s
  refine ⟨hbusy, hkey, hactive, ?dir, ?mode, hovr, h6, ?err, ?nr, hdout, h21, hivWr, h28⟩
  case dir => rw [readReg, hdir]; cases s.msgDir <;> simp [dirBit]
  case mode => rw [readReg, hmode]; cases s.msgMode <;> simp [modeBit]
  case err => rw [readReg, herr]; cases s.err <;> rfl
  case nr => rw [readReg, hnr]; cases s.nr <;> rfl

/-! ### Reset -/

theorem regWord_replicate_zero (n j : Nat) : regWord (Vector.replicate n 0#8) j = 0 := by
  have byte (k : Nat) : (Vector.replicate n 0#8).getD k 0 = 0 := by by_cases h : k < n <;> simp [Vector.getD, h]
  simp only [regWord, byte]
  rfl

theorem readReg_reset (r : Reg) : readReg r State.reset = if r = .id then 0x41455331 else 0 := by
  cases r with
  | id | status | cmd | result | msgLen | msgRemain | msgTail => rfl
  | key j => exact regWord_replicate_zero 32 j
  | iv j | chain j | state j | din j | dout j => exact regWord_replicate_zero 16 j
  | rkw i => simp [readReg, State.reset]

theorem readReg_resetCore (r : Reg) (s : State) : readReg r (resetCore s) = readReg r State.reset := by
  cases r <;> rfl

/-- Settles O1: `readReg_reset`, and what the environment holds is read by no register. -/
theorem resetGivesEveryRegisterItsValue : Obligations.ResetGivesEveryRegisterItsValue := fun s =>
  ⟨resetCore s, rfl, fun r => (readReg_resetCore r s).trans (readReg_reset r), rfl, rfl, rfl, rfl, rfl, rfl,
    fun r hr => (readReg_reset r).trans (if_neg hr)⟩

/-- Settles O2: the step is `resetCore`, which looks at nothing but the environment's two lists. -/
theorem resetDiscardsThePendingCommand : Obligations.ResetDiscardsThePendingCommand := fun _ _ => step_of_reset

/-! ### A completion -/

/-- Settles O3: one law of `execute` for each of R100's cases. -/
theorem stepRunsThePendingCommand : Obligations.StepRunsThePendingCommand := by
  refine ⟨fun s rest i hc hg hd => ?runs, fun s rest hc hg hd => ?illegal, fun s rest hc hg hd => ?clears,
    fun s rest hc hg hd => ?discards, fun s rest hi hb => ?notEnabled⟩
  case runs =>
    obtain ⟨t, ht⟩ := exec_answers_next i { s with inputs := rest }
    refine ⟨t, ht, ?_⟩
    rw [step_of_completionIsNext hc]
    exact coreComplete_eq_next.mpr ⟨t, (execute_open_ok (s := { s with inputs := rest }) hg hd).trans ht, rfl⟩
  case illegal =>
    rw [step_of_completionIsNext hc, coreComplete, execute_of_not_decodes hd]
    simp only [mapNext, show gateClosed { s with inputs := rest } = false from hg]
    rfl
  case clears =>
    rw [step_of_completionIsNext hc, coreComplete, execute_clrErr hd]
    rfl
  case discards =>
    rw [step_of_completionIsNext hc, coreComplete, execute_closed (s := { s with inputs := rest }) hg, if_neg hd]
    rfl
  case notEnabled => simp [step, nextStep, performEvent, hi, hb]

theorem performEvent_complete {s : State} (hb : s.busy = true) : performEvent .complete s = coreComplete s :=
  if_pos hb

/-- Settles O54: the dropped write closes the gate, and `coreComplete_of_gateClosed` says what a completion does then. -/
theorem writesWhileBusyAreDropped : Obligations.WritesWhileBusyAreDropped := by
  intro s off v hb hm
  obtain ⟨r, rfl⟩ := mappedOffset_iff.mp hm
  have drop : performEvent (.write r.offset 32 v) s = .next (answer .ok { s with ovr := true }) := by
    rw [performEvent, busWriteReply_offset, busWrite_offset_busy r v hb]
  have completes : performEvent .complete (answer .ok { s with ovr := true }) =
      .next (retire (if s.pending = 0x00000001 then clearErrors (answer .ok { s with ovr := true })
        else answer .ok { s with ovr := true })) :=
    (performEvent_complete (s := answer .ok { s with ovr := true }) hb).trans
      (coreComplete_of_gateClosed (gateClosed_eq_true.mpr (.inr rfl)))
  refine ⟨by simp only [runEvents, drop]; rfl, fun hp => ?_, fun hp => ?_⟩
  · simp only [runEvents, drop, completes, if_neg hp]
    rfl
  · simp only [runEvents, drop, completes, if_pos hp]
    rfl

/-! ### What no command reads or writes -/

/-- The state with other values in BUSY, PENDING and the environment's lists. -/
def State.around (s : State) (busy : Bool) (pending : Word) (inputs : List Event) (replies : List Reply) : State :=
  { s with busy := busy, pending := pending, inputs := inputs, replies := replies }

section
variable {s t : State} (b : Bool) (p : Word) (es : List Event) (rs : List Reply)

/-- A command does the same whatever these hold, and leaves them. -/
theorem exec_around {i : Instr} (h : exec i s = .next t) :
    exec i (s.around b p es rs) = .next (t.around b p es rs) := by
  obtain ⟨v, hv⟩ := exec_answers_next i (s.around b p es rs)
  have reads := commandsReadOnlyTheirRegisters i s _ t v h hv
  rw [hv]
  congr 1
  cases i with
  | nop => obtain ⟨rfl, rfl⟩ := reads; rfl
  | clrErr => obtain ⟨_, _, rfl, rfl⟩ := reads; rfl
  | gfMul | sbox | invSbox => obtain ⟨_, rfl, rfl⟩ := reads; rfl
  | keyExpand =>
    obtain ⟨_, -, rfl, rfl⟩ | ⟨_, _, _, rfl, rfl⟩ | ⟨_, _, _, _, -, rfl, rfl⟩ := reads rfl rfl <;> rfl
  | subBytes | invSubBytes | shiftRows | invShiftRows | mixColumns | invMixColumns =>
    obtain ⟨_, rfl, rfl⟩ := reads rfl; rfl
  | addRoundKey | encBlock | decBlock =>
    obtain ⟨_, -, rfl, rfl⟩ | ⟨_, rfl, rfl⟩ := reads rfl rfl rfl rfl <;> rfl
  | padAdd | padCheck => obtain ⟨_, -, rfl, rfl⟩ | ⟨_, rfl, rfl⟩ := reads rfl <;> rfl
  | msgStart =>
    obtain ⟨_, -, rfl, rfl⟩ | ⟨_, _, _, _, _, _, _, _, _, _, rfl, rfl⟩ := reads rfl rfl rfl rfl rfl <;> rfl
  | msgBlock =>
    obtain ⟨_, -, rfl, rfl⟩ | ⟨_, _, _, _, _, _, _, _, rfl, rfl⟩ | ⟨_, _, _, _, _, _, _, _, _, -, rfl, rfl⟩ :=
      reads rfl rfl rfl rfl rfl rfl rfl rfl rfl <;> rfl
  | msgAbort => obtain ⟨rfl, rfl⟩ | ⟨_, _, _, _, _, _, _, rfl, rfl⟩ := reads rfl <;> rfl

theorem execute_around {w : Word} (h : execute w s = .next t) :
    execute w (s.around b p es rs) = .next (t.around b p es rs) := by
  obtain ⟨hg, hd, rfl⟩ | ⟨-, hd, rfl⟩ | ⟨hg, ⟨e, hd⟩, rfl⟩ | ⟨hg, i, hd, hx⟩ := execute_cases h
  · rw [execute_closed (s := t.around b p es rs) hg, if_neg hd]
  · rw [execute_clrErr hd]; rfl
  · rw [execute_open_error (s := s.around b p es rs) hg hd]; rfl
  · rw [execute_open_ok (s := s.around b p es rs) hg hd]; exact exec_around b p es rs hx

/-- Put back as they were, they are what they are afterwards. -/
theorem execute_eq_around {w : Word} (h : execute w s = .next t) :
    t = t.around s.busy s.pending s.inputs s.replies :=
  outcome_unique h (execute_around s.busy s.pending s.inputs s.replies h)

theorem coreComplete_answers_next (s : State) : ∃ t, coreComplete s = .next t := by
  obtain ⟨u, hu⟩ := execute_answers_next s.pending s
  exact ⟨retire u, coreComplete_eq_next.mpr ⟨u, hu, rfl⟩⟩

/-- A completion does the same whatever has been answered before it. -/
theorem coreComplete_with_replies (s : State) :
    coreComplete { s with replies := rs } = mapNext (fun t => { t with replies := rs }) (coreComplete s) := by
  obtain ⟨u, hu⟩ := execute_answers_next s.pending s
  have there : execute s.pending { s with replies := rs } = .next (u.around s.busy s.pending s.inputs rs) :=
    execute_around s.busy s.pending s.inputs rs hu
  rw [execute_eq_around hu] at hu
  rw [coreComplete, coreComplete, there, hu]
  rfl

/-- A completion does the same whatever is still to come. -/
theorem coreComplete_with_inputs (s : State) :
    coreComplete { s with inputs := es } = mapNext (fun t => { t with inputs := es }) (coreComplete s) := by
  obtain ⟨u, hu⟩ := execute_answers_next s.pending s
  have there : execute s.pending { s with inputs := es } = .next (u.around s.busy s.pending es s.replies) :=
    execute_around s.busy s.pending es s.replies hu
  rw [execute_eq_around hu] at hu
  rw [coreComplete, coreComplete, there, hu]
  rfl

end

/-! ### Reads before a completion -/

theorem runEvents_append_of_next {es es' : List Event} {s t : State} (h : runEvents es s = .next t) :
    runEvents (es ++ es') s = runEvents es' t := by
  induction es generalizing s with
  | nil => cases h; rfl
  | cons e es ih =>
    simp only [runEvents, List.cons_append] at h ⊢
    split at h
    next u hu => exact ih h
    next => cases h
    next => cases h

theorem runEvents_singleton (e : Event) (s : State) : runEvents [e] s = performEvent e s := by
  simp only [runEvents]
  cases performEvent e s <;> rfl

theorem performEvent_readEvent (r : Reg) (s : State) :
    performEvent (readEvent r) s = .next (answer (.data (readReg r s)) s) := by
  rw [readEvent, performEvent, busRead_offset]

/-- Reads answer one after another what the registers hold, and change nothing. -/
theorem runEvents_reads (rs : List Reg) (s : State) :
    runEvents (rs.map readEvent) s =
      .next { s with replies := (rs.map fun r => Reply.data (readReg r s)).reverse ++ s.replies } := by
  induction rs generalizing s with
  | nil => rfl
  | cons r rs ih =>
    simp only [List.map_cons, runEvents, performEvent_readEvent, ih, readReg_answer, answer_replies,
      List.reverse_cons, List.append_assoc, List.singleton_append]
    rfl

/-- Settles O57: the reads change only the replies, which a completion does not look at. -/
theorem readsWhileBusySeeTheOldValues : Obligations.ReadsWhileBusySeeTheOldValues := by
  intro s rs hb
  refine ⟨?_, ?_⟩
  · rw [runEvents_append_of_next (runEvents_reads rs s), runEvents_singleton, performEvent_complete (by exact hb),
      coreComplete_with_replies]
  · obtain ⟨hbusy, -⟩ := statusWord_bits s
    exact hbusy.trans hb

/-! ### Events in order -/

theorem busRead_with_inputs (off size : Nat) (es : List Event) (s : State) :
    busRead off size { s with inputs := es } = busRead off size s := by
  unfold busRead
  cases regAt off size with
  | none => rfl
  | some r => cases r <;> rfl

theorem writeReg_with_inputs (r : Reg) (v : Word) (es : List Event) (s : State) :
    writeReg r v { s with inputs := es } = { writeReg r v s with inputs := es } := by
  cases r <;> rfl

theorem busWrite_with_inputs (off size : Nat) (v : Word) (es : List Event) (s : State) :
    busWrite off size v { s with inputs := es } = { busWrite off size v s with inputs := es } := by
  cases hreg : regAt off size with
  | none => rw [busWrite_none hreg, busWrite_none hreg]
  | some r =>
    obtain ⟨rfl, rfl⟩ := regAt_eq_some.mp hreg
    obtain hb | hb := Bool.eq_false_or_eq_true s.busy
    · rw [busWrite_offset_busy r v hb, busWrite_offset_busy r v (s := { s with inputs := es }) hb]
    · rw [busWrite_offset_idle r v hb, busWrite_offset_idle r v (s := { s with inputs := es }) hb,
        writeReg_with_inputs]

/-- What a step does to the rest does not depend on what is to come after it. -/
theorem performEvent_with_inputs (e : Event) (es : List Event) (s : State) :
    performEvent e { s with inputs := es } = mapNext (fun t => { t with inputs := es }) (performEvent e s) := by
  cases e with
  | read off size => simp only [performEvent, busRead_with_inputs]; rfl
  | write off size v => simp only [performEvent, busWrite_with_inputs]; rfl
  | complete =>
    obtain hb | hb := Bool.eq_false_or_eq_true s.busy
    · rw [performEvent_complete hb, performEvent_complete (by exact hb), coreComplete_with_inputs]
    · simp [performEvent, hb, mapNext]
  | reset => rfl

theorem step_with_next_input (e : Event) (es : List Event) (s : State) :
    step { s with inputs := e :: es } = performEvent e { s with inputs := es } := rfl

/-- Settles O58: the step of the first event, and the run of the others from its next state. -/
theorem inputsAreTakenInOrder : Obligations.InputsAreTakenInOrder := by
  intro es rest s
  induction es generalizing s with
  | nil => rfl
  | cons e es ih =>
    have first : core.step { s with inputs := e :: (es ++ rest) } = performEvent e { s with inputs := es ++ rest } := rfl
    simp only [List.cons_append, List.length_cons, Host.Core.run, runEvents, first, performEvent_with_inputs]
    cases performEvent e s with
    | next t => exact ih t
    | fault | refused => rfl

/-! ### Steps that are taken -/

theorem step_of_empty_inputs {s : State} (h : s.inputs = []) : step s = performUnprompted s := by
  simp only [step, nextStep, h]

theorem performEvent_answers_next {e : Event} {s : State} (h : e = .complete → s.busy = true) :
    ∃ t, performEvent e s = .next t := by
  cases e with
  | read | write | reset => exact ⟨_, rfl⟩
  | complete =>
    rw [performEvent_complete (h rfl)]
    exact coreComplete_answers_next s

theorem performUnprompted_answers_next (s : State) : ∃ t, performUnprompted s = .next t := by
  unfold performUnprompted
  split
  · exact coreComplete_answers_next s
  · exact ⟨s, rfl⟩

theorem step_answers_next_of_enabled {s : State} (h : s.enabled = true) : ∃ t, step s = .next t := by
  unfold State.enabled at h
  cases hi : s.inputs with
  | nil => rw [step_of_empty_inputs hi]; exact performUnprompted_answers_next s
  | cons e rest =>
    have taken : step s = performEvent e { s with inputs := rest } := by simp only [step, nextStep, hi]
    rw [taken]
    refine performEvent_answers_next ?_
    rintro rfl
    simpa only [hi] using h

/-- Only a completion asked for while idle is not enabled. -/
theorem inputs_of_not_enabled {s : State} (h : s.enabled = false) :
    (∃ rest, s.inputs = .complete :: rest) ∧ s.busy = false := by
  unfold State.enabled at h
  split at h
  next rest hi => exact ⟨⟨rest, hi⟩, h⟩
  all_goals cases h

theorem run_succ_of_step {s t : State} (h : step s = .next t) (n : Nat) : core.run (n + 1) s = core.run n t := by
  have taken : core.step s = .next t := h
  simp only [Host.Core.run, taken]

/-- R309: with only reads in store, a busy core has completed one step after the last of them. -/
theorem run_completes_after_reads {n : Nat} {s : State} (hn : s.inputs.length = n)
    (hreads : ∀ e ∈ s.inputs, ∃ off size, e = .read off size) (hb : s.busy = true) :
    ∃ t, core.run (n + 1) s = .next t ∧ t.busy = false := by
  induction n generalizing s with
  | zero =>
    have hi : s.inputs = [] := List.length_eq_zero_iff.mp hn
    obtain ⟨u, hu⟩ := execute_answers_next s.pending s
    have completes : step s = .next (retire u) := by
      rw [step_of_empty_inputs hi, performUnprompted, if_pos hb]
      exact coreComplete_eq_next.mpr ⟨u, hu, rfl⟩
    exact ⟨retire u, run_succ_of_step completes 0, rfl⟩
  | succ n ih =>
    obtain ⟨e, rest, hi⟩ := List.exists_cons_of_length_eq_add_one hn
    rw [hi] at hn hreads
    obtain ⟨off, size, rfl⟩ := hreads e (by simp)
    rw [run_succ_of_step (step_of_read hi)]
    exact ih (by simpa using hn) (fun e he => hreads e (by simp [he])) hb

/-- Settles O59: the kinds of step one by one, and the reads before a completion by their number. -/
theorem enabledStepsAreTakenAndCommandsComplete : Obligations.EnabledStepsAreTakenAndCommandsComplete := by
  refine ⟨fun _ => step_answers_next_of_enabled, fun s h => ?notEnabled, fun s hi hb => ?idle,
    fun _ => run_completes_after_reads rfl⟩
  case notEnabled =>
    obtain ⟨⟨rest, hi⟩, hb⟩ := inputs_of_not_enabled h
    simp [step, nextStep, performEvent, hi, hb]
  case idle => simp [step_of_empty_inputs hi, performUnprompted, hb]

end Sys2Proof.Machine
end

section
/-! PROOF. The reference functions Encrypt and Decrypt undo each other (46_modes.md R230 to R233, R242). A byte string of
whole blocks and the list of its blocks are the same thing; each mode undoes itself block by block because InvCipher
undoes Cipher; and what PKCS7Add adds is removed. -/

namespace Sys2Proof.Machine

/-- Settles O38: the last block of an encryption reads DIN through `padFill`. -/
theorem finalBlockIgnoresStaleInput : Obligations.FinalBlockIgnoresStaleInput := by
  intro s d hm hd hr hbytes
  refine ⟨_, exec_msgBlock_of_enc hm hd, ?_⟩
  have stale := exec_msgBlock_of_enc (s := { s with din := d }) hm hd
  rw [stale, encryptMsgBlock_of_last hr, encryptMsgBlock_of_last (s := { s with din := d }) hr]
  have filled : padFill d s.msgTail.toNat = padFill s.din s.msgTail.toNat := padFill_congr hbytes
  simp only [filled]
  rfl

/-! ### Byte strings and blocks -/

theorem length_joinBlocks (bs : List Block) : (joinBlocks bs).length = 16 * bs.length := by
  induction bs with
  | nil => rfl
  | cons b bs ih =>
    rw [joinBlocks, List.flatMap_cons, List.length_append, length_blockBytes, ← joinBlocks, ih, List.length_cons]
    omega

theorem joinBlocks_nil : joinBlocks [] = [] := rfl

theorem joinBlocks_cons (b : Block) (bs : List Block) : joinBlocks (b :: bs) = blockBytes b ++ joinBlocks bs := rfl

theorem joinBlocks_append (bs bs' : List Block) : joinBlocks (bs ++ bs') = joinBlocks bs ++ joinBlocks bs' :=
  List.flatMap_append

theorem blockAt_append_zero (b : Block) (d : List Byte) (fill : Byte) : blockAt (blockBytes b ++ d) 0 fill = b := by
  refine Vector.ext fun k hk => ?_
  have inside : k < (blockBytes b).length := by rw [length_blockBytes]; exact hk
  rw [getElem_blockAt _ _ _ hk, Nat.mul_zero, Nat.zero_add, List.getD_append _ _ _ _ inside,
    List.getD_eq_getElem _ _ inside, getElem_blockBytes]

theorem blockAt_append_succ (b : Block) (d : List Byte) (i : Nat) (fill : Byte) :
    blockAt (blockBytes b ++ d) (i + 1) fill = blockAt d i fill := by
  refine Vector.ext fun k hk => ?_
  rw [getElem_blockAt _ _ _ hk, getElem_blockAt _ _ _ hk, List.getD_append_right _ _ _ _ (by rw [length_blockBytes]; omega),
    length_blockBytes]
  congr 1
  omega

/-- The blocks of a sequence of blocks are the sequence. -/
theorem blocksOf_joinBlocks (bs : List Block) : blocksOf bs.length (joinBlocks bs) = bs := by
  induction bs with
  | nil => rfl
  | cons b bs ih =>
    rw [blocksOf, joinBlocks_cons, List.length_cons, List.range_succ_eq_map, List.map_cons, List.map_map,
      blockAt_append_zero]
    congr 1
    refine Eq.trans (List.map_congr_left fun i _ => ?_) ih
    exact blockAt_append_succ b (joinBlocks bs) i 0

/-- A padded message is the sequence of its blocks. -/
theorem joinBlocks_blocksOf_pkcs7Add (p : List Byte) :
    joinBlocks (blocksOf (p.length / 16 + 1) (pkcs7Add p)) = pkcs7Add p := by
  have whole : (pkcs7Add p).length = 16 * (p.length / 16 + 1) := by rw [length_pkcs7Add]; omega
  rw [joinBlocks_blocksOf whole.ge, List.take_of_length_le whole.le]

/-! ### The modes, block by block -/

/-- What a mode adds to a block before the cipher in encryption, and after it in decryption (R231 to R233). -/
def modeXor (mode : Mode) (c x : Block) : Block := if mode = .cbc then xorBlock x c else x

/-- The next chaining value, when the ciphertext block is `y`. -/
def modeChain (mode : Mode) (c y : Block) : Block := if mode = .cbc then y else c

theorem chainXor_eq_modeXor (s : State) (x : Block) : chainXor s x = modeXor s.msgMode s.chain x := chainXor_eq s x

theorem encryptBlocks_nil (mode : Mode) (enc : Block → Block) (c : Block) : encryptBlocks mode enc c [] = [] := by
  cases mode <;> rfl

theorem encryptBlocks_cons (mode : Mode) (enc : Block → Block) (c x : Block) (xs : List Block) :
    encryptBlocks mode enc c (x :: xs) =
      enc (modeXor mode c x) :: encryptBlocks mode enc (modeChain mode c (enc (modeXor mode c x))) xs := by
  cases mode <;> rfl

theorem decryptBlocks_nil (mode : Mode) (dec : Block → Block) (c : Block) : decryptBlocks mode dec c [] = [] := by
  cases mode <;> rfl

theorem decryptBlocks_cons (mode : Mode) (dec : Block → Block) (c y : Block) (ys : List Block) :
    decryptBlocks mode dec c (y :: ys) =
      modeXor mode c (dec y) :: decryptBlocks mode dec (modeChain mode c y) ys := by
  cases mode <;> rfl

theorem xorBlock_xorBlock (x c : Block) : xorBlock (xorBlock x c) c = x := by
  refine Vector.ext fun k hk => ?_
  rw [getElem_xorBlock _ _ k hk, getElem_xorBlock _ _ k hk, BitVec.xor_assoc, BitVec.xor_self, BitVec.xor_zero]

theorem modeXor_modeXor (mode : Mode) (c x : Block) : modeXor mode c (modeXor mode c x) = x := by
  cases mode with
  | ecb => rfl
  | cbc => exact xorBlock_xorBlock x c

theorem length_encryptBlocks (mode : Mode) (enc : Block → Block) (c : Block) (xs : List Block) :
    (encryptBlocks mode enc c xs).length = xs.length := by
  induction xs generalizing c with
  | nil => rw [encryptBlocks_nil]
  | cons x xs ih => rw [encryptBlocks_cons, List.length_cons, ih, List.length_cons]

theorem decryptBlocks_encryptBlocks {enc dec : Block → Block} (h : ∀ x, dec (enc x) = x) (mode : Mode) (c : Block)
    (xs : List Block) : decryptBlocks mode dec c (encryptBlocks mode enc c xs) = xs := by
  induction xs generalizing c with
  | nil => rw [encryptBlocks_nil, decryptBlocks_nil]
  | cons x xs ih => rw [encryptBlocks_cons, decryptBlocks_cons, h, modeXor_modeXor, ih]

/-! ### The reference functions -/

theorem usableIv_of_length {mode : Mode} {iv : Option (List Byte)} (h : mode = .cbc → ∃ v, iv = some v ∧ v.length = 16) :
    ∃ c0, usableIv mode iv = .ok c0 := by
  cases mode with
  | ecb => exact ⟨zeroBlock, rfl⟩
  | cbc =>
    obtain ⟨v, rfl, hv⟩ := h rfl
    exact ⟨blockAt v 0 0, if_pos hv⟩

section
variable {k : List Byte} {mode : Mode} {iv : Option (List Byte)} {r : Rounds} {c0 : Block}
  (hr : roundsOfLength k.length = some r) (hiv : usableIv mode iv = .ok c0)
include hr hiv

theorem encryptRef_eq_ok (p : List Byte) :
    encryptRef k mode iv p = .ok (joinBlocks (encryptBlocks mode (cipher r.count (roundKey (scheduleOfKey r k))) c0
      (blocksOf (p.length / 16 + 1) (pkcs7Add p)))) := by
  simp only [encryptRef, hr, hiv]

/-- The padded plaintext that Decrypt finds in a ciphertext of whole blocks. -/
def decryptedBytes (k : List Byte) (mode : Mode) (r : Rounds) (c0 : Block) (c : List Byte) : List Byte :=
  joinBlocks (decryptBlocks mode (invCipher r.count (roundKey (scheduleOfKey r k))) c0 (blocksOf (c.length / 16) c))

theorem decryptRef_of_unaligned {c : List Byte} (hc : c.length % 16 ≠ 0) :
    decryptRef k mode iv c = .error .invalidBlockLength := by
  simp only [decryptRef, hr, hiv, if_pos hc]

theorem decryptRef_of_removed {c p : List Byte} (hc : c.length % 16 = 0)
    (hp : pkcs7Remove (decryptedBytes k mode r c0 c) = some p) : decryptRef k mode iv c = .ok p := by
  rw [decryptedBytes] at hp
  simp only [decryptRef, hr, hiv, if_neg (not_not.mpr hc), hp]

theorem decryptRef_of_invalidPadding {c : List Byte} (hc : c.length % 16 = 0)
    (hp : pkcs7Remove (decryptedBytes k mode r c0 c) = none) : decryptRef k mode iv c = .error .invalidPadding := by
  rw [decryptedBytes] at hp
  simp only [decryptRef, hr, hiv, if_neg (not_not.mpr hc), hp]

end

/-- Settles O41: the blocks of the ciphertext are those that were encrypted. -/
theorem decryptUndoesEncrypt : Obligations.DecryptUndoesEncrypt := by
  intro k mode iv p hk hivs
  obtain ⟨r, hr, -⟩ := roundsOfLength_of_keyLength hk
  obtain ⟨c0, hiv⟩ := usableIv_of_length hivs
  refine ⟨_, encryptRef_eq_ok hr hiv p, decryptRef_of_removed hr hiv ?aligned ?removed⟩
  case aligned => rw [length_joinBlocks, Nat.mul_mod_right]
  case removed =>
    rw [decryptedBytes, length_joinBlocks, Nat.mul_div_cancel_left _ (by decide), blocksOf_joinBlocks,
      decryptBlocks_encryptBlocks (invCipher_cipher _ _), joinBlocks_blocksOf_pkcs7Add, pkcs7Remove_pkcs7Add]

end Sys2Proof.Machine
end

section
/-! PROOF. The assembler and the disassembler (30_encoding.md R87). A mnemonic and an operand are tokens: they hold no space and no comma.
So the reader finds the mnemonic before the first space and the operands between the commas, as the printer wrote
them. -/

namespace Sys2Proof.Machine

/-! ### Tokens -/

/-- A text that the reader keeps whole. -/
def IsToken (t : List Char) : Prop := t ≠ [] ∧ ' ' ∉ t ∧ ',' ∉ t

theorem skipSpaces_of_ne {c : Char} (h : c ≠ ' ') (t : List Char) : skipSpaces (c :: t) = c :: t :=
  List.dropWhile_cons_of_neg (by simpa using h)

theorem IsToken.skipSpaces_append {t : List Char} (h : IsToken t) (u : List Char) : skipSpaces (t ++ u) = t ++ u := by
  obtain ⟨nonempty, space, -⟩ := h
  cases t with
  | nil => exact absurd rfl nonempty
  | cons c t => exact skipSpaces_of_ne (by rintro rfl; simp at space) (t ++ u)

theorem IsToken.skipSpaces_eq {t : List Char} (h : IsToken t) : skipSpaces t = t := by
  simpa using h.skipSpaces_append []

theorem IsToken.reverse {t : List Char} (h : IsToken t) : IsToken t.reverse := by
  simpa [IsToken] using h

/-- A piece between commas without the spaces around it. -/
def trim (t : List Char) : List Char := (skipSpaces (skipSpaces t).reverse).reverse

theorem IsToken.trim_eq {t : List Char} (h : IsToken t) : trim t = t := by
  rw [trim, h.skipSpaces_eq, h.reverse.skipSpaces_eq, List.reverse_reverse]

theorem IsToken.trim_space {t : List Char} (h : IsToken t) : trim (' ' :: t) = t := by
  have skipped : skipSpaces (' ' :: t) = skipSpaces t := List.dropWhile_cons_of_pos (by simp)
  rw [trim, skipped, ← trim, h.trim_eq]

theorem operandTokens_of_skipSpaces_eq {t : List Char} (h : skipSpaces t = t) (ht : t ≠ []) :
    operandTokens t = (t.splitOn ',').map trim := by
  rw [operandTokens, h]
  cases t with
  | nil => exact absurd rfl ht
  | cons => rfl

theorem IsToken.operandTokens_one {x : List Char} (hx : IsToken x) : operandTokens x = [x] := by
  have ⟨nonempty, _, comma⟩ := hx
  rw [operandTokens_of_skipSpaces_eq hx.skipSpaces_eq nonempty, List.splitOn_eq_singleton comma, List.map_singleton,
    hx.trim_eq]

theorem IsToken.operandTokens_two {x y : List Char} (hx : IsToken x) (hy : IsToken y) :
    operandTokens (x ++ ',' :: ' ' :: y) = [x, y] := by
  have ⟨_, _, comma⟩ := hx
  have ⟨_, _, comma'⟩ := hy
  have second : ',' ∉ ' ' :: y := by simpa using comma'
  rw [operandTokens_of_skipSpaces_eq (hx.skipSpaces_append _) (by simp),
    List.splitOn_append_cons_self_of_not_mem comma, List.splitOn_eq_singleton second, List.map_cons,
    List.map_singleton, hx.trim_eq, hy.trim_space]

theorem firstToken_append {m : List Char} (h : ' ' ∉ m) (t : List Char) : firstToken (m ++ ' ' :: t) = (m, t) := by
  induction m with
  | nil => rfl
  | cons c m ih =>
    rw [List.mem_cons, not_or] at h
    obtain ⟨hc, hm⟩ := h
    rw [List.cons_append, firstToken, if_neg (Ne.symm hc), ih hm]

/-! ### The reader on the printed forms -/

section
variable {m : List Char} (hm : IsToken m)
include hm

theorem IsToken.firstToken_eq (t : List Char) : firstToken (skipSpaces (m ++ ' ' :: t)) = (m, t) := by
  have ⟨_, space, _⟩ := hm
  rw [hm.skipSpaces_append, firstToken_append space]

theorem parse_one_operand {x : List Char} {n : Byte} (hx : IsToken x) (hn : parseByte x = some n) :
    parse (m ++ ' ' :: x) = parseOneByte m n := by
  simp only [parse, hm.firstToken_eq, hx.operandTokens_one, hn]

theorem parse_two_operands {x y : List Char} (hx : IsToken x) (hy : IsToken y) :
    parse (m ++ ' ' :: x ++ ',' :: ' ' :: y) = parseTwo m x y := by
  rw [List.append_assoc, List.cons_append]
  simp only [parse, hm.firstToken_eq, hx.operandTokens_two hy]

end

/-! ### Operands -/

theorem parseByte_decText : ∀ b : Byte, parseByte (decText b) = some b := by decide +kernel

theorem parseByte_hexText : ∀ b : Byte, parseByte (hexText b) = some b := by decide +kernel

theorem isToken_decText : ∀ b : Byte, IsToken (decText b) := by
  unfold IsToken
  decide +kernel

theorem isToken_hexText : ∀ b : Byte, IsToken (hexText b) := by
  unfold IsToken
  decide +kernel

theorem isToken_dirText (d : Dir) : IsToken (dirText d) := by
  unfold IsToken
  cases d <;> decide +kernel

theorem isToken_modeText (md : Mode) : IsToken (modeText md) := by
  unfold IsToken
  cases md <;> decide +kernel

theorem isToken_mnemonic (i : Instr) : IsToken i.mnemonic.toList := by
  unfold IsToken
  cases i <;> simp only [Instr.mnemonic] <;> decide +kernel

theorem parseDir_dirText (d : Dir) : parseDir (dirText d) = some d := by cases d <;> decide +kernel

theorem parseMode_modeText (md : Mode) : parseMode (modeText md) = some md := by cases md <;> decide +kernel

/-! ### The assembler and the disassembler -/

theorem parse_render_hexByte {i : Instr} {b : Byte} (hi : operandTexts i = [hexText b])
    (hparse : parseOneByte i.mnemonic.toList b = some i) : parse (render i) = some i := by
  rw [render, hi]
  exact (parse_one_operand (isToken_mnemonic i) (isToken_hexText b) (parseByte_hexText b)).trans hparse

theorem parse_render_decByte {i : Instr} {b : Byte} (hi : operandTexts i = [decText b])
    (hparse : parseOneByte i.mnemonic.toList b = some i) : parse (render i) = some i := by
  rw [render, hi]
  exact (parse_one_operand (isToken_mnemonic i) (isToken_decText b) (parseByte_decText b)).trans hparse

theorem parse_render_gfMul (a b : Byte) : parse (render (.gfMul a b)) = some (.gfMul a b) := by
  refine (parse_two_operands (isToken_mnemonic (.gfMul a b)) (isToken_hexText a) (isToken_hexText b)).trans ?_
  rw [parseTwo, Instr.mnemonic, if_pos rfl]
  simp only [parseByte_hexText]

theorem parse_render_msgStart {a : Byte} (h : a.extractLsb' 2 6 = 0#6) :
    parse (render (.msgStart a)) = some (.msgStart a) := by
  have hne : ¬ "MSG_START".toList = "GF_MUL".toList := by decide +kernel
  refine (parse_two_operands (isToken_mnemonic (.msgStart a)) (isToken_dirText _) (isToken_modeText _)).trans ?_
  rw [parseTwo, Instr.mnemonic, if_neg hne, if_pos rfl]
  simp only [parseDir_dirText, parseMode_modeText, msgStartOperand_of_reserved_zero a h]

theorem parse_render {i : Instr} (h : i.wf = true) : parse (render i) = some i := by
  cases i with
  | gfMul a b => exact parse_render_gfMul a b
  | msgStart a => exact parse_render_msgStart (of_decide_eq_true h)
  | sbox b | invSbox b => exact parse_render_hexByte (b := b) rfl (by simp [parseOneByte, Instr.mnemonic])
  | keyExpand b | addRoundKey b | padAdd b =>
    exact parse_render_decByte (b := b) rfl (by simp [parseOneByte, Instr.mnemonic])
  | nop | clrErr | subBytes | invSubBytes | shiftRows | invShiftRows | mixColumns | invMixColumns | encBlock | decBlock
  | padCheck | msgBlock | msgAbort => decide +kernel

theorem disassemble_of_decode {w : Word} {i : Instr} (h : decode w = .ok i) :
    disassemble w = String.ofList (render i) := by
  simp only [disassemble, h]

theorem disassemble_of_illegal {w : Word} (h : ∀ i, decode w ≠ .ok i) :
    disassemble w = String.ofList (".word 0x".toList ++ hexDigits 8 w.toNat) := by
  cases hd : decode w with
  | ok i => exact absurd hd (h i)
  | error e => simp only [disassemble, hd]

theorem assemble_of_parse {t : List Char} {i : Instr} (h : parse t = some i) :
    assemble (String.ofList t) = some (encode i) := by
  simp only [assemble, String.toList_ofList, h]

/-- Settles O10: what is printed of a command is parsed to it, and its word is the one that was read. -/
theorem assemblerReadsTheDisassembly : Obligations.AssemblerReadsTheDisassembly := by
  refine ⟨fun w i hd => ?command, fun b => ⟨parseByte_decText b, parseByte_hexText b⟩, fun _ => disassemble_of_illegal,
    ?examples⟩
  case command =>
    obtain ⟨rfl, hwf⟩ := encode_of_decode hd
    rw [disassemble_of_decode hd, assemble_of_parse (parse_render hwf)]
  case examples => decide +kernel

end Sys2Proof.Machine
end

section
/-! PROOF. The host procedures (46_modes.md R240 to R242). A host operation runs by one law each; what a command leaves
is known up to BUSY, PENDING and the environment's lists (`Settled`), which no later command reads. So each pass of a
procedure's loop is one block of the reference function, and the loops follow by induction on the blocks left. -/

namespace Sys2Proof.Machine

/-! ### Host operations -/

theorem runOps_append {ops ops' : List HostOp} {s t : State} (h : runOps ops s = .next t) :
    runOps (ops ++ ops') s = runOps ops' t := by
  rw [runOps, List.flatMap_append]
  exact runEvents_append_of_next h

theorem runOps_write {s : State} (hb : s.busy = false) (r : Reg) (v : Word) :
    runOps [.wr r v] s = .next (answer .ok (writeReg r v s)) := by
  have events : [HostOp.wr r v].flatMap HostOp.events = [.write r.offset 32 v] := rfl
  rw [runOps, events, runEvents_singleton, performEvent, busWriteReply_offset, busWrite_offset_idle r v hb]

theorem runOps_reads (rs : List Reg) (s : State) :
    runOps (rs.map .rd) s =
      .next { s with replies := (rs.map fun r => Reply.data (readReg r s)).reverse ++ s.replies } := by
  have events : (rs.map HostOp.rd).flatMap HostOp.events = rs.map readEvent := by
    rw [List.flatMap_map]
    exact List.flatMap_pure_eq_map readEvent rs
  rw [runOps, events, runEvents_reads]

/-- `u` is what stands after the completion of a command that left `t`: the core is idle again, and only the latch and
the environment's lists are otherwise. -/
def Settled (t u : State) : Prop := ∃ es rs, u = t.around false 0 es rs

/-- A command that the host issues to an idle core with the gate open is performed, however long it takes (R88). -/
theorem runOps_cmd {w : Word} {i : Instr} {s t : State} (hb : s.busy = false) (hg : gateClosed s = false)
    (hd : decode w = .ok i) (hx : exec i s = .next t) (polls : Nat) :
    ∃ u, runOps [.cmd w polls] s = .next u ∧ Settled t u := by
  have polled := runEvents_reads (List.replicate polls .status) (answer .ok (issue w s))
  rw [List.map_replicate] at polled
  generalize (List.map _ _).reverse ++ _ = rs at polled
  have performed : execute w (s.around true w s.inputs rs) = .next (t.around true w s.inputs rs) :=
    execute_around true w s.inputs rs ((execute_open_ok hg hd).trans hx)
  have completed : performEvent .complete (s.around true w s.inputs rs) = .next (t.around false 0 s.inputs rs) :=
    (performEvent_complete rfl).trans (coreComplete_eq_next.mpr ⟨_, performed, rfl⟩)
  refine ⟨answer (.data (readReg .status (t.around false 0 s.inputs rs))) (t.around false 0 s.inputs rs), ?_, _, _, rfl⟩
  have events : [HostOp.cmd w polls].flatMap HostOp.events =
      .write 0x008 32 w :: (List.replicate polls (readEvent .status) ++ [.complete, readEvent .status]) := by
    simp [HostOp.events, Reg.offset]
  rw [runOps, events, runEvents, performEvent_write_cmd hb]
  refine (runEvents_append_of_next polled).trans ?_
  simp only [runEvents]
  rw [show performEvent .complete { answer .ok (issue w s) with replies := rs } = _ from completed]
  simp only [performEvent_readEvent]

/-- The STATUS that the host reads after a command shows what the command left. -/
theorem runOps_cmd_status {w : Word} {i : Instr} {s t : State} (hb : s.busy = false) (hg : gateClosed s = false)
    (hd : decode w = .ok i) (hx : exec i s = .next t) (polls : Nat) :
    ∃ u, runOps [.cmd w polls, .rd .status] s = .next u ∧ Settled t u ∧ errField (lastData u) = t.err.code ∧
      doutBytesField (lastData u) = t.doutBytes.toNat := by
  obtain ⟨_, hrun, es, rs, rfl⟩ := runOps_cmd hb hg hd hx polls
  obtain ⟨-, herr, -, hdout, -⟩ := statusWord_fields (t.around false 0 es rs)
  refine ⟨_, (runOps_append (ops' := [.rd .status]) hrun).trans (runOps_reads [.status] _), ⟨_, _, rfl⟩, herr, ?_⟩
  exact congrArg BitVec.toNat hdout

/-! ### Blocks over the bus -/

theorem setRegWord_all_words (x b : Block) :
    setRegWord (setRegWord (setRegWord (setRegWord x (0 : Fin 4) (regWord b 0)) (1 : Fin 4) (regWord b 1)) (2 : Fin 4)
      (regWord b 2)) (3 : Fin 4) (regWord b 3) = b := by
  refine Vector.ext fun k hk => ?_
  have byte (j : Nat) (h : k / 4 = j) : wordByte (regWord b j) (k % 4) = b[k] := by
    rw [wordByte_regWord b j (Nat.mod_lt _ (by decide)), ← h, Nat.div_add_mod, getD_block_of_lt b hk]
  simp only [getElem_setRegWord _ _ _ k hk]
  obtain h | h | h | h : k / 4 = 0 ∨ k / 4 = 1 ∨ k / 4 = 2 ∨ k / 4 = 3 := by omega
  all_goals simp [h, byte]

/-- WRBLK DIN. -/
theorem runOps_wrblk_din {s : State} (hb : s.busy = false) (b : Block) :
    ∃ rs, runOps (wrblk .din b) s = .next { s with din := b, replies := rs } := by
  have words : wrblk .din b =
      [.wr (.din 0) (regWord b 0)] ++ ([.wr (.din 1) (regWord b 1)] ++
        ([.wr (.din 2) (regWord b 2)] ++ [.wr (.din 3) (regWord b 3)])) := rfl
  have write (d : Block) (rs : List Reply) (j : Fin 4) (v : Word) :
      runOps [.wr (.din j) v] { s with din := d, replies := rs } =
        .next { s with din := setRegWord d j v, replies := .ok :: rs } :=
    runOps_write (s := { s with din := d, replies := rs }) hb (.din j) v
  refine ⟨.ok :: .ok :: .ok :: .ok :: s.replies, ?_⟩
  rw [words, runOps_append (write s.din s.replies 0 _), runOps_append (write _ _ 1 _), runOps_append (write _ _ 2 _),
    write, setRegWord_all_words]

theorem ivWr_all_words : ∀ m : BitVec 4,
    m ||| (1#4 <<< (0 : Fin 4).val) ||| (1#4 <<< (1 : Fin 4).val) ||| (1#4 <<< (2 : Fin 4).val) |||
      (1#4 <<< (3 : Fin 4).val) = 0b1111#4 := by
  decide

/-- WRBLK IV, which leaves the IV complete. -/
theorem runOps_wrblk_iv {s : State} (hb : s.busy = false) (b : Block) :
    ∃ rs, runOps (wrblk .iv b) s = .next { s with iv := b, ivWr := 0b1111#4, replies := rs } := by
  have words : wrblk .iv b =
      [.wr (.iv 0) (regWord b 0)] ++ ([.wr (.iv 1) (regWord b 1)] ++
        ([.wr (.iv 2) (regWord b 2)] ++ [.wr (.iv 3) (regWord b 3)])) := rfl
  have write (x : Block) (m : BitVec 4) (rs : List Reply) (j : Fin 4) (v : Word) :
      runOps [.wr (.iv j) v] { s with iv := x, ivWr := m, replies := rs } =
        .next { s with iv := setRegWord x j v, ivWr := m ||| (1#4 <<< j.val), replies := .ok :: rs } :=
    runOps_write (s := { s with iv := x, ivWr := m, replies := rs }) hb (.iv j) v
  refine ⟨.ok :: .ok :: .ok :: .ok :: s.replies, ?_⟩
  rw [words, runOps_append (write s.iv s.ivWr s.replies 0 _), runOps_append (write _ _ _ 1 _),
    runOps_append (write _ _ _ 2 _), write, setRegWord_all_words, ivWr_all_words]

theorem blockBytes_eq_wordBytes (b : Block) :
    blockBytes b = (List.range 4).flatMap fun j =>
      [wordByte (regWord b j) 0, wordByte (regWord b j) 1, wordByte (regWord b j) 2, wordByte (regWord b j) 3] := by
  have byte (j : Nat) {i : Nat} (hi : i < 4) := wordByte_regWord b j hi
  simp only [byte _ (show 0 < 4 by decide), byte _ (show 1 < 4 by decide), byte _ (show 2 < 4 by decide),
    byte _ (show 3 < 4 by decide)]
  refine List.ext_getElem (length_blockBytes b) fun k hk _ => ?_
  rw [length_blockBytes] at hk
  rw [getElem_blockBytes, ← getD_block_of_lt b hk]
  interval_cases k <;> rfl

/-- RDBLK DOUT: the last four reads are DOUT's bytes. -/
theorem runOps_rdblk_dout (s : State) :
    ∃ rs, runOps (rdblk .dout) s = .next { s with replies := rs } ∧
      lastBlockRead { s with replies := rs } = blockBytes s.dout := by
  refine ⟨_, runOps_reads [.dout 0, .dout 1, .dout 2, .dout 3] s, ?_⟩
  rw [blockBytes_eq_wordBytes]
  rfl

end Sys2Proof.Machine
end

section
/-! PROOF. ENCRYPT_MSG and DECRYPT_MSG compute Encrypt and Decrypt (46_modes.md R240 to R242). The state between two
passes of a loop is described by `InMessage`: each pass takes one block off it and gives one block of the reference
function; both loops follow by induction on the number of blocks left. -/

namespace Sys2Proof.Machine

/-! ### The schedule that KEY_EXPAND made -/

theorem wordsOfKey_eq_keyWordsOf {k : List Byte} {key : Vector Byte 32}
    (h : ∀ i < k.length, key.getD i 0 = k.getD i 0) : wordsOfKey k = keyWordsOf key k.length := by
  refine List.map_congr_left fun j hj => ?_
  have hj : j < k.length / 4 := List.mem_range.mp hj
  simp only [regWord, h (4 * j) (by omega), h (4 * j + 1) (by omega), h (4 * j + 2) (by omega),
    h (4 * j + 3) (by omega)]

theorem ScheduleMadeFrom.held {k : List Byte} {s : State} (hk : KeyLength k.length) (h : ScheduleMadeFrom k s) :
    roundsOfLength k.length = some s.nr ∧ s.rkw = scheduleOfKey s.nr k := by
  obtain ⟨s0, s1, hkey, hm, hx, hrkw, hnr, -⟩ := h
  obtain ⟨r, hr, -⟩ := roundsOfLength_of_keyLength hk
  have len : (BitVec.ofNat 8 k.length).toNat = k.length := by
    unfold KeyLength at hk
    rw [BitVec.toNat_ofNat]
    omega
  obtain rfl := outcome_unique hx (exec_keyExpand_of_rounds hm (len.symm ▸ hr))
  rw [hnr, hrkw, len, ← wordsOfKey_eq_keyWordsOf hkey]
  exact ⟨hr, rfl⟩

/-! ### The states between host operations -/

/-- The core is idle with the gate open and holds the schedule `w` of `r` rounds. -/
structure Idle (r : Rounds) (w : Vector Word 60) (s : State) : Prop where
  busy : s.busy = false
  err : s.err = .none
  ovr : s.ovr = false
  key : s.keyValid = true
  nr : s.nr = r
  rkw : s.rkw = w

/-- An idle core with `n` blocks of a message to go, the chaining value being `c`. -/
structure InMessage (r : Rounds) (w : Vector Word 60) (dir : Dir) (mode : Mode) (n : Nat) (tail : BitVec 4) (c : Block)
    (s : State) : Prop extends Idle r w s where
  active : s.msgActive = true
  dir : s.msgDir = dir
  mode : s.msgMode = mode
  remain : s.msgRemain = BitVec.ofNat 29 n
  tail : s.msgTail = tail
  chain : s.chain = c

/-- An idle core without a message, with what MSG_START reads of a message of `len` bytes written. -/
structure Loaded (r : Rounds) (w : Vector Word 60) (mode : Mode) (iv : Block) (len : Nat) (s : State) : Prop
    extends Idle r w s where
  inactive : s.msgActive = false
  msgLen : s.msgLen = BitVec.ofNat 32 len
  iv : mode = .cbc → s.iv = iv ∧ s.ivWr = 0b1111#4

section
variable {r : Rounds} {w : Vector Word 60} {s t : State}

theorem ReadyForMessage.idle (h : ReadyForMessage s) : Idle s.nr s.rkw s := by
  obtain ⟨hbusy, herr, hovr, -, hkey⟩ := h
  exact ⟨hbusy, herr, hovr, hkey, rfl, rfl⟩

theorem Idle.readyForMessage (h : Idle r w s) (hm : s.msgActive = false) : ReadyForMessage s :=
  ⟨h.busy, h.err, h.ovr, hm, h.key⟩

theorem Idle.gateOpen (h : Idle r w s) : gateClosed s = false := gateClosed_eq_false.mpr ⟨h.err, h.ovr⟩

theorem Idle.settled (h : Idle r w s) (hst : Settled s t) : Idle r w t := by
  obtain ⟨_, _, rfl⟩ := hst
  exact ⟨rfl, h.err, h.ovr, h.key, h.nr, h.rkw⟩

theorem Settled.msgActive (h : Settled s t) : t.msgActive = s.msgActive := by
  obtain ⟨_, _, rfl⟩ := h
  rfl

theorem Settled.dout (h : Settled s t) : t.dout = s.dout := by
  obtain ⟨_, _, rfl⟩ := h
  rfl

theorem Settled.of_around {b : Bool} {p : Word} {es : List Event} {rs : List Reply}
    (h : Settled (s.around b p es rs) t) : Settled s t := h

theorem Settled.with_replies (h : Settled s t) (rs : List Reply) : Settled s { t with replies := rs } := by
  obtain ⟨es, _, rfl⟩ := h
  exact ⟨es, rs, rfl⟩

variable {dir : Dir} {mode : Mode} {n : Nat} {tail : BitVec 4} {c : Block}

theorem InMessage.settled (h : InMessage r w dir mode n tail c s) (hst : Settled s t) :
    InMessage r w dir mode n tail c t := by
  have idle := h.toIdle.settled hst
  obtain ⟨_, _, rfl⟩ := hst
  exact ⟨idle, h.active, h.dir, h.mode, h.remain, h.tail, h.chain⟩

theorem InMessage.with_din (h : InMessage r w dir mode n tail c s) (d : Block) :
    InMessage r w dir mode n tail c { s with din := d } :=
  ⟨⟨h.busy, h.err, h.ovr, h.key, h.nr, h.rkw⟩, h.active, h.dir, h.mode, h.remain, h.tail, h.chain⟩

theorem InMessage.encrypt_eq (h : InMessage r w dir mode n tail c s) (x : Block) :
    encryptBlock s (chainXor s x) = cipher r.count (roundKey w) (modeXor mode c x) := by
  rw [encryptBlock, chainXor_eq_modeXor, h.nr, h.rkw, h.mode, h.chain]

theorem InMessage.decrypt_eq (h : InMessage r w dir mode n tail c s) (y : Block) :
    chainXor s (decryptBlock s y) = modeXor mode c (invCipher r.count (roundKey w) y) := by
  rw [decryptBlock, chainXor_eq_modeXor, h.nr, h.rkw, h.mode, h.chain]

/-! ### One block -/

/-- A block that is not the last leaves the message with one block fewer to go. -/
theorem InMessage.more (h : InMessage r w dir mode (n + 1) tail c s) (b y : Block) :
    InMessage r w dir mode n tail (modeChain mode c y)
      { s with
        chain := if s.msgMode = .cbc then y else s.chain, dout := b, doutBytes := 16, msgRemain := s.msgRemain - 1 } := by
  refine ⟨⟨h.busy, h.err, h.ovr, h.key, h.nr, h.rkw⟩, h.active, h.dir, h.mode, ?remain, h.tail, ?chain⟩
  case remain =>
    change s.msgRemain - 1 = _
    rw [h.remain, BitVec.ofNat_add, BitVec.ofNat_eq_ofNat, BitVec.add_sub_cancel]
  case chain =>
    change (if s.msgMode = .cbc then y else s.chain) = _
    rw [h.mode, h.chain, modeChain]

theorem InMessage.msgRemain_ne_one (h : InMessage r w dir mode (n + 2) tail c s) (hn : n + 2 ≤ 0x10000000) :
    s.msgRemain ≠ 1 := by
  rw [h.remain]
  intro one
  have := congrArg BitVec.toNat one
  rw [BitVec.toNat_ofNat] at this
  change (n + 2) % 2 ^ 29 = 1 at this
  omega

variable (d : Block)

theorem InMessage.exec_encrypt_more (h : InMessage r w .enc mode (n + 2) tail c s) (hn : n + 2 ≤ 0x10000000) :
    ∃ v, exec .msgBlock { s with din := d } = .next v ∧ v.dout = cipher r.count (roundKey w) (modeXor mode c d) ∧
      InMessage r w .enc mode (n + 1) tail (modeChain mode c v.dout) v := by
  have h' := h.with_din d
  exact ⟨_, (exec_msgBlock_of_enc h'.active h'.dir).trans
    (congrArg _ (encryptMsgBlock_of_more (h'.msgRemain_ne_one hn) (h'.encrypt_eq d))), rfl, h'.more _ _⟩

theorem InMessage.exec_encrypt_last (h : InMessage r w .enc mode 1 tail c s) :
    ∃ v, exec .msgBlock { s with din := d } = .next v ∧
      v.dout = cipher r.count (roundKey w) (modeXor mode c (padFill d tail.toNat)) ∧
      Idle r w v ∧ v.msgActive = false := by
  have h' := h.with_din d
  refine ⟨_, (exec_msgBlock_of_enc h'.active h'.dir).trans (congrArg _ (encryptMsgBlock_of_last h'.remain)), ?_,
    ⟨h.busy, h.err, h.ovr, h.key, h.nr, h.rkw⟩, rfl⟩
  rw [← h'.tail, ← h'.encrypt_eq]
  rfl

theorem InMessage.exec_decrypt_more (h : InMessage r w .dec mode (n + 2) tail c s) (hn : n + 2 ≤ 0x10000000) :
    ∃ v, exec .msgBlock { s with din := d } = .next v ∧ v.dout = modeXor mode c (invCipher r.count (roundKey w) d) ∧
      v.doutBytes = 16 ∧ InMessage r w .dec mode (n + 1) tail (modeChain mode c d) v := by
  have h' := h.with_din d
  exact ⟨_, (exec_msgBlock_of_dec h'.active h'.dir).trans
    (congrArg _ (decryptMsgBlock_of_more (h'.msgRemain_ne_one hn))), h'.decrypt_eq d, rfl, h'.more _ _⟩

theorem InMessage.exec_decrypt_last {m : Nat} (h : InMessage r w .dec mode 1 tail c s)
    (hc : padCheck (modeXor mode c (invCipher r.count (roundKey w) d)) = some m) :
    ∃ v, exec .msgBlock { s with din := d } = .next v ∧ v.dout = modeXor mode c (invCipher r.count (roundKey w) d) ∧
      v.doutBytes = BitVec.ofNat 5 m ∧ v.err = .none := by
  have h' := h.with_din d
  rw [← h'.decrypt_eq] at hc ⊢
  exact ⟨_, (exec_msgBlock_of_dec h'.active h'.dir).trans (congrArg _ (decryptMsgBlock_of_padding h'.remain hc)), rfl,
    rfl, h.err⟩

theorem InMessage.exec_decrypt_failure (h : InMessage r w .dec mode 1 tail c s)
    (hc : padCheck (modeXor mode c (invCipher r.count (roundKey w) d)) = none) :
    ∃ v, exec .msgBlock { s with din := d } = .next v ∧ v.err = .invalidPadding := by
  have h' := h.with_din d
  rw [← h'.decrypt_eq] at hc
  exact ⟨_, (exec_msgBlock_of_dec h'.active h'.dir).trans
    (congrArg _ (decryptMsgBlock_of_invalidPadding h'.remain hc)), rfl⟩

end

/-! ### The opening -/

section
variable {r : Rounds} {w : Vector Word 60} {mode : Mode} {iv : Block} {len : Nat} {s u : State}

theorem Idle.runOps_load (h : Idle r w s) (hm : s.msgActive = false) (mode : Mode) (iv : Block) (len : Nat) :
    ∃ u, runOps (ivOps mode iv ++ [.wr .msgLen (BitVec.ofNat 32 len)]) s = .next u ∧ Loaded r w mode iv len u := by
  cases mode with
  | ecb => exact ⟨_, runOps_write h.busy _ _, ⟨h.busy, h.err, h.ovr, h.key, h.nr, h.rkw⟩, hm, rfl, nofun⟩
  | cbc =>
    obtain ⟨rs, hiv⟩ := runOps_wrblk_iv h.busy iv
    exact ⟨_, (runOps_append hiv).trans (runOps_write (by exact h.busy) _ _),
      ⟨h.busy, h.err, h.ovr, h.key, h.nr, h.rkw⟩, hm, rfl, fun _ => ⟨rfl, rfl⟩⟩

theorem decode_encode_msgStart (dir : Dir) (mode : Mode) :
    decode (encode (.msgStart (msgStartOperand dir mode))) = .ok (.msgStart (msgStartOperand dir mode)) :=
  decode_encode (by cases dir <;> cases mode <;> rfl)

/-- The opening of a procedure is MSG_START on the loaded core; the STATUS read after it shows the error. -/
theorem Idle.runOps_startOps (h : Idle r w s) (hm : s.msgActive = false) (dir : Dir) (mode : Mode) (iv : Block)
    (len polls : Nat) :
    ∃ u, Loaded r w mode iv len u ∧ ∀ v, exec (.msgStart (msgStartOperand dir mode)) u = .next v →
      ∃ t, runOps (startOps dir mode iv len polls) s = .next t ∧ Settled v t ∧ errField (lastData t) = v.err.code := by
  obtain ⟨u, hload, loaded⟩ := h.runOps_load hm mode iv len
  refine ⟨u, loaded, fun v hv => ?_⟩
  obtain ⟨t, ht, settled, herr, -⟩ :=
    runOps_cmd_status loaded.busy loaded.gateOpen (decode_encode_msgStart dir mode) hv polls
  refine ⟨t, ?_, settled, herr⟩
  rw [startOps, ← List.singleton_append, ← List.append_assoc, runOps_append hload]
  exact ht

theorem Loaded.toNat_msgLen (h : Loaded r w mode iv len u) (hlen : len < 2 ^ 32) : u.msgLen.toNat = len := by
  rw [h.msgLen, BitVec.toNat_ofNat, Nat.mod_eq_of_lt hlen]

theorem Loaded.chain_eq (h : Loaded r w mode iv len u) :
    (if mode = .cbc then u.iv else zeroBlock) = modeChain mode zeroBlock iv := by
  unfold modeChain
  split
  next hmode =>
    obtain ⟨hiv, -⟩ := h.iv hmode
    exact hiv
  next => rfl

theorem Loaded.inMessage_enc (h : Loaded r w mode iv len u) (hlen : len < 2 ^ 32) :
    InMessage r w .enc mode (len / 16 + 1) (BitVec.ofNat 4 (len % 16)) (modeChain mode zeroBlock iv)
      (beginMessage .enc mode u) := by
  rw [beginMessage_eq]
  refine ⟨⟨h.busy, h.err, h.ovr, h.key, h.nr, h.rkw⟩, rfl, rfl, rfl, ?_, ?_, h.chain_eq⟩
  · simp [h.toNat_msgLen hlen]
  · simp [h.toNat_msgLen hlen]

theorem Loaded.inMessage_dec (h : Loaded r w mode iv len u) (hlen : len < 2 ^ 32) :
    InMessage r w .dec mode (len / 16) 0 (modeChain mode zeroBlock iv) (beginMessage .dec mode u) := by
  rw [beginMessage_eq]
  refine ⟨⟨h.busy, h.err, h.ovr, h.key, h.nr, h.rkw⟩, rfl, rfl, rfl, ?_, rfl, h.chain_eq⟩
  simp [h.toNat_msgLen hlen]

/-- R230 and R235 start from the same chaining value. -/
theorem usableIv_blockBytes (mode : Mode) (iv : Block) :
    usableIv mode (some (blockBytes iv)) = .ok (modeChain mode zeroBlock iv) := by
  cases mode with
  | ecb => rfl
  | cbc =>
    have whole := blockAt_append_zero iv [] 0
    rw [List.append_nil] at whole
    simp only [usableIv, length_blockBytes, if_true, whole, modeChain]

end

end Sys2Proof.Machine
end

section
/-! PROOF. ENCRYPT_MSG (46_modes.md R240): the blocks written to DIN are those of the padded message, the last one by
the fill of MSG_BLOCK. -/

namespace Sys2Proof.Machine

/-! ### The blocks of the padded message -/

theorem blockAt_joinBlocks {bs : List Block} {i : Nat} (h : i < bs.length) : blockAt (joinBlocks bs) i 0 = bs[i] := by
  have entry : (blocksOf bs.length (joinBlocks bs))[i]? = bs[i]? := by rw [blocksOf_joinBlocks]
  simpa [blocksOf, h] using entry

theorem pkcs7Add_eq_joinBlocks (p : List Byte) :
    pkcs7Add p = joinBlocks (blocksOf (p.length / 16) p ++
      [padFill (blockAt p (p.length / 16) 0) (p.length % 16)]) := by
  rw [joinBlocks_append, joinBlocks_cons, joinBlocks_nil, List.append_nil, pkcs7Add_eq_padFill]

theorem length_blocksOf (m : Nat) (d : List Byte) : (blocksOf m d).length = m := by simp [blocksOf]

/-- A whole block of the data is a block of the padded message, and DIN holds it. -/
theorem dinBlock_of_lt {p : List Byte} {k : Nat} (hk : k < p.length / 16) (fill : Nat → Byte) :
    dinBlock p fill k = blockAt (pkcs7Add p) k 0 := by
  have inside : k < (blocksOf (p.length / 16) p ++ [padFill (blockAt p (p.length / 16) 0) (p.length % 16)]).length := by
    rw [List.length_append, length_blocksOf]
    omega
  rw [pkcs7Add_eq_joinBlocks, blockAt_joinBlocks inside, List.getElem_append_left (by rwa [length_blocksOf])]
  refine Vector.ext fun j hj => ?_
  have data : 16 * k + j < p.length := by omega
  simp [blocksOf, dinBlock, getElem_blockAt _ _ _ hj, data]

/-- What DIN holds when MSG_BLOCK takes plaintext block `k` (R240): it is not written when there is no data byte. -/
def dinForBlock (p : List Byte) (fill : Nat → Byte) (k : Nat) (stale : Block) : Block :=
  if p.length - 16 * k > 0 then dinBlock p fill k else stale

/-- The last block of the padded message is the fill of what DIN holds then. -/
theorem padFill_dinForBlock (p : List Byte) (fill : Nat → Byte) (stale : Block) :
    padFill (dinForBlock p fill (p.length / 16) stale) (p.length % 16) = blockAt (pkcs7Add p) (p.length / 16) 0 := by
  have inside : p.length / 16 <
      (blocksOf (p.length / 16) p ++ [padFill (blockAt p (p.length / 16) 0) (p.length % 16)]).length := by
    rw [List.length_append, length_blocksOf, List.length_singleton]
    omega
  rw [pkcs7Add_eq_joinBlocks, blockAt_joinBlocks inside, List.getElem_append_right (by rw [length_blocksOf])]
  simp only [length_blocksOf, Nat.sub_self, List.getElem_singleton]
  refine padFill_blockAt_stale (by omega) fun j hj => ?_
  have written : p.length - 16 * (p.length / 16) > 0 := by omega
  have data : 16 * (p.length / 16) + j < p.length := by omega
  rw [dinForBlock, if_pos written, getD_block_of_lt _ (by omega)]
  simp [dinBlock, data]

/-! ### One pass of the loop -/

section
variable {r : Rounds} {w : Vector Word 60} {s v : State}

theorem Idle.runOps_writeDin (h : Idle r w s) (p : List Byte) (fill : Nat → Byte) (k : Nat) :
    ∃ rs, runOps (if p.length - 16 * k > 0 then wrblk .din (dinBlock p fill k) else []) s =
      .next { s with din := dinForBlock p fill k s.din, replies := rs } := by
  unfold dinForBlock
  split
  · exact runOps_wrblk_din h.busy _
  · exact ⟨s.replies, rfl⟩

/-- A pass is MSG_BLOCK on the core with DIN written, and the host reads what it leaves in DOUT. -/
theorem Idle.runOps_encryptBlockOps (h : Idle r w s) {p : List Byte} {fill : Nat → Byte} {k : Nat}
    (hx : exec .msgBlock { s with din := dinForBlock p fill k s.din } = .next v) (polls : Nat) :
    ∃ t, runOps (encryptBlockOps p fill k polls) s = .next t ∧ Settled v t ∧ lastBlockRead t = blockBytes v.dout := by
  obtain ⟨rs, hdin⟩ := h.runOps_writeDin p fill k
  have performed : exec .msgBlock { s with din := dinForBlock p fill k s.din, replies := rs } =
      .next (v.around s.busy s.pending s.inputs rs) := exec_around s.busy s.pending s.inputs rs hx
  obtain ⟨u, hu, settled⟩ := runOps_cmd (s := { s with din := dinForBlock p fill k s.din, replies := rs })
    h.busy h.gateOpen (decode_encode (i := .msgBlock) rfl) performed polls
  obtain ⟨rs', hread, hbytes⟩ := runOps_rdblk_dout u
  refine ⟨_, ?_, settled.of_around.with_replies rs', hbytes.trans (by rw [settled.of_around.dout])⟩
  rw [encryptBlockOps, ← List.singleton_append, runOps_append hdin, runOps_append hu, hread]

end

/-! ### The loop and the procedure -/

section
variable {r : Rounds} {w : Vector Word 60} {mode : Mode}

theorem encryptLoop_cons {p : List Byte} {fill : Nat → Byte} {lat : Nat → Nat} {k : Nat} {s t : State}
    (h : runOps (encryptBlockOps p fill k (lat (k + 1))) s = .next t) (ks : List Nat) (out : List Byte) :
    encryptLoop p fill lat (k :: ks) out s = encryptLoop p fill lat ks (out ++ lastBlockRead t) t := by
  rw [encryptLoop, h, thenHost]

/-- The blocks of the padded message with the numbers from `k` on. -/
def paddedBlocks (p : List Byte) (k n : Nat) : List Block := (List.range' k n).map fun i => blockAt (pkcs7Add p) i 0

theorem paddedBlocks_succ (p : List Byte) (k n : Nat) :
    paddedBlocks p k (n + 1) = blockAt (pkcs7Add p) k 0 :: paddedBlocks p (k + 1) n := rfl

/-- The loop of R240 with `n + 1` blocks to go. -/
theorem encryptLoop_eq {p : List Byte} (fill : Nat → Byte) (lat : Nat → Nat) (hp : p.length < 2 ^ 32) {n k : Nat}
    {c : Block} {s : State} (hk : k + n = p.length / 16)
    (h : InMessage r w .enc mode (n + 1) (BitVec.ofNat 4 (p.length % 16)) c s) (out : List Byte) :
    ∃ t, encryptLoop p fill lat (List.range' k (n + 1)) out s =
        .next (t, .ok (out ++
          joinBlocks (encryptBlocks mode (cipher r.count (roundKey w)) c (paddedBlocks p k (n + 1))))) ∧
      ReadyForMessage t := by
  induction n generalizing k c s out with
  | zero =>
    obtain rfl : k = p.length / 16 := hk
    have tail : (BitVec.ofNat 4 (p.length % 16)).toNat = p.length % 16 := by rw [BitVec.toNat_ofNat]; omega
    obtain ⟨v, hx, hdout, idle, inactive⟩ := h.exec_encrypt_last (dinForBlock p fill _ s.din)
    obtain ⟨t, hrun, settled, hread⟩ := h.toIdle.runOps_encryptBlockOps hx (lat _)
    refine ⟨t, ?_, (idle.settled settled).readyForMessage (settled.msgActive.trans inactive)⟩
    rw [tail, padFill_dinForBlock] at hdout
    rw [List.range'_succ, encryptLoop_cons hrun, hread, hdout, paddedBlocks_succ, encryptBlocks_cons, joinBlocks_cons]
    simp only [List.range'_zero, encryptLoop, paddedBlocks, List.map_nil, encryptBlocks_nil, joinBlocks_nil,
      List.append_nil]
  | succ n ih =>
    have written : p.length - 16 * k > 0 := by omega
    have din : dinForBlock p fill k s.din = blockAt (pkcs7Add p) k 0 := by
      rw [dinForBlock, if_pos written, dinBlock_of_lt (by omega)]
    obtain ⟨v, hx, hdout, next⟩ := h.exec_encrypt_more (dinForBlock p fill k s.din) (by omega)
    obtain ⟨t, hrun, settled, hread⟩ := h.toIdle.runOps_encryptBlockOps hx (lat (k + 1))
    obtain ⟨t', hloop, ready⟩ := ih (k := k + 1) (by omega) (next.settled settled) (out ++ lastBlockRead t)
    refine ⟨t', ?_, ready⟩
    rw [List.range'_succ, encryptLoop_cons hrun, hloop, hread, hdout, din, paddedBlocks_succ p k, encryptBlocks_cons,
      joinBlocks_cons, List.append_assoc]

end

/-- Settles O39: MSG_START's checks pass, and the loop computes the blocks of Encrypt. -/
theorem encryptMsgComputesEncrypt : Obligations.EncryptMsgComputesEncrypt := by
  intro k mode iv p fill lat s hk hmade hready hp
  have ⟨_, _, _, inactive, _⟩ := hready
  obtain ⟨hr, hrkw⟩ := hmade.held hk
  obtain ⟨u, loaded, start⟩ := hready.idle.runOps_startOps inactive .enc mode iv p.length (lat 0)
  have passes : msgStartCheck .enc mode u = none := by
    refine msgStartCheck_eq_none.mpr ⟨loaded.inactive, loaded.key, fun hmode => ?_, nofun⟩
    obtain ⟨-, hivWr⟩ := loaded.iv hmode
    exact hivWr
  obtain ⟨t, hstart, settled, herr⟩ := start _ (exec_msgStart_operand passes)
  have message := (loaded.inMessage_enc hp).settled settled
  have noError : errField (lastData t) = 0 := by
    rw [herr, (loaded.inMessage_enc hp).err]
    rfl
  obtain ⟨t', hloop, ready⟩ := encryptLoop_eq fill lat hp (Nat.zero_add _) message []
  rw [hrkw] at hloop
  refine ⟨t', _, encryptRef_eq_ok hr (usableIv_blockBytes mode iv) p, ?runs, ?length, ready⟩
  case runs =>
    rw [encryptMsg, hstart, thenHost, if_neg (not_not.mpr noError), List.range_eq_range', hloop, List.nil_append,
      paddedBlocks, ← List.range_eq_range', blocksOf]
  case length => rw [length_joinBlocks, length_encryptBlocks, length_blocksOf]

end Sys2Proof.Machine
end

section
/-! PROOF. DECRYPT_MSG (46_modes.md R241). The padding is removed from the bytes read so far and the last block, which
is what MSG_BLOCK's check of the last block alone decides. -/

namespace Sys2Proof.Machine

/-- What the host has of a decryption: the plaintext, or the code of INVALID_PADDING. -/
def hostVerdict : Option (List Byte) → Except (BitVec 4) (List Byte)
  | none => .error ErrCode.invalidPadding.code
  | some p => .ok p

/-! ### One pass of the loop -/

section
variable {r : Rounds} {w : Vector Word 60} {s v : State} {c : List Byte} {k : Nat}

/-- A pass is MSG_BLOCK on the core with DIN written; the STATUS read after it shows its error and its count. -/
theorem Idle.runOps_decryptBlockOps (h : Idle r w s) (hx : exec .msgBlock { s with din := blockAt c k 0 } = .next v)
    (polls : Nat) :
    ∃ t, runOps (decryptBlockOps c k polls) s = .next t ∧ Settled v t ∧ errField (lastData t) = v.err.code ∧
      doutBytesField (lastData t) = v.doutBytes.toNat := by
  obtain ⟨rs, hdin⟩ := runOps_wrblk_din h.busy (blockAt c k 0)
  have performed : exec .msgBlock { s with din := blockAt c k 0, replies := rs } =
      .next (v.around s.busy s.pending s.inputs rs) := exec_around s.busy s.pending s.inputs rs hx
  obtain ⟨t, ht, settled, herr, hcount⟩ := runOps_cmd_status (s := { s with din := blockAt c k 0, replies := rs })
    h.busy h.gateOpen (decode_encode (i := .msgBlock) rfl) performed polls
  refine ⟨t, ?_, settled.of_around, herr, hcount⟩
  rw [decryptBlockOps, runOps_append hdin, ht]

/-- A block without an error is read, as many bytes of it as DOUT_BYTES says. -/
theorem Idle.decryptLoop_pass (h : Idle r w s) (hx : exec .msgBlock { s with din := blockAt c k 0 } = .next v)
    (herr : v.err = .none) (lat : Nat → Nat) (ks : List Nat) (out : List Byte) :
    ∃ u, Settled v u ∧ decryptLoop c lat (k :: ks) out s =
      decryptLoop c lat ks (out ++ (blockBytes v.dout).take v.doutBytes.toNat) u := by
  obtain ⟨t, ht, settled, hstatus, hcount⟩ := h.runOps_decryptBlockOps hx (lat (k + 1))
  obtain ⟨rs, hread, hbytes⟩ := runOps_rdblk_dout t
  have noError : errField (lastData t) ≠ ErrCode.invalidPadding.code := by
    rw [hstatus, herr]
    decide
  refine ⟨_, settled.with_replies rs, ?_⟩
  rw [decryptLoop, ht, thenHost, if_neg noError, hread, thenHost, hbytes, hcount, settled.dout]

/-- A padding failure ends the procedure with its code, and the bytes so far are discarded. -/
theorem Idle.decryptLoop_failure (h : Idle r w s) (hx : exec .msgBlock { s with din := blockAt c k 0 } = .next v)
    (herr : v.err = .invalidPadding) (lat : Nat → Nat) (ks : List Nat) (out : List Byte) :
    ∃ t, decryptLoop c lat (k :: ks) out s = .next (t, .error ErrCode.invalidPadding.code) := by
  obtain ⟨t, ht, -, hstatus, -⟩ := h.runOps_decryptBlockOps hx (lat (k + 1))
  rw [herr] at hstatus
  exact ⟨t, by rw [decryptLoop, ht, thenHost, if_pos hstatus]⟩

end

/-! ### The loop -/

section
variable {r : Rounds} {w : Vector Word 60} {mode : Mode}

/-- The blocks of the ciphertext with the numbers from `k` on. -/
def cipherBlocks (c : List Byte) (k n : Nat) : List Block := (List.range' k n).map fun i => blockAt c i 0

theorem cipherBlocks_succ (c : List Byte) (k n : Nat) :
    cipherBlocks c k (n + 1) = blockAt c k 0 :: cipherBlocks c (k + 1) n := rfl

/-- The last pass: MSG_BLOCK's check decides what is removed from the bytes of the last block. -/
theorem decryptLoop_last (c : List Byte) (lat : Nat → Nat) {k : Nat} {tail : BitVec 4} {chain : Block} {s : State}
    (h : InMessage r w .dec mode 1 tail chain s) (out : List Byte) :
    ∃ t, decryptLoop c lat [k] out s =
      .next (t, hostVerdict (pkcs7Remove (out ++
        blockBytes (modeXor mode chain (invCipher r.count (roundKey w) (blockAt c k 0)))))) := by
  rw [pkcs7Remove_append_blockBytes]
  cases hc : padCheck (modeXor mode chain (invCipher r.count (roundKey w) (blockAt c k 0))) with
  | none =>
    obtain ⟨v, hx, herr⟩ := h.exec_decrypt_failure (blockAt c k 0) hc
    exact h.toIdle.decryptLoop_failure hx herr lat [] out
  | some m =>
    obtain ⟨v, hx, hdout, hcount, herr⟩ := h.exec_decrypt_last (blockAt c k 0) hc
    obtain ⟨u, -, hloop⟩ := h.toIdle.decryptLoop_pass hx herr lat [] out
    have count : v.doutBytes.toNat = m := by
      have small := padCheck_le hc
      rw [hcount, BitVec.toNat_ofNat]
      omega
    rw [hdout, count] at hloop
    exact ⟨u, hloop⟩

/-- The loop of R241 with `n + 1` blocks to go. -/
theorem decryptLoop_eq (c : List Byte) (lat : Nat → Nat) {n k : Nat} (hn : n + 1 ≤ 0x10000000) {tail : BitVec 4}
    {chain : Block} {s : State} (h : InMessage r w .dec mode (n + 1) tail chain s) (out : List Byte) :
    ∃ t, decryptLoop c lat (List.range' k (n + 1)) out s =
      .next (t, hostVerdict (pkcs7Remove (out ++
        joinBlocks (decryptBlocks mode (invCipher r.count (roundKey w)) chain (cipherBlocks c k (n + 1)))))) := by
  induction n generalizing k chain s out with
  | zero =>
    rw [cipherBlocks_succ, decryptBlocks_cons, joinBlocks_cons]
    simp only [cipherBlocks, List.range'_zero, List.map_nil, decryptBlocks_nil, joinBlocks_nil, List.append_nil]
    exact decryptLoop_last c lat h out
  | succ n ih =>
    obtain ⟨v, hx, hdout, hcount, next⟩ := h.exec_decrypt_more (blockAt c k 0) (by omega)
    obtain ⟨u, settled, hloop⟩ := h.toIdle.decryptLoop_pass hx next.err lat (List.range' (k + 1) (n + 1)) out
    have whole : (blockBytes v.dout).take v.doutBytes.toNat = blockBytes v.dout := by
      rw [hcount]
      exact List.take_of_length_le (length_blockBytes _).le
    obtain ⟨t, ht⟩ := ih (k := k + 1) (by omega) (next.settled settled) (out ++ blockBytes v.dout)
    refine ⟨t, ?_⟩
    rw [List.range'_succ, hloop, whole, ht, hdout, cipherBlocks_succ c k, decryptBlocks_cons, joinBlocks_cons,
      List.append_assoc]

end

/-! ### The procedure -/

theorem exec_msgStart_operand_of_error {dir : Dir} {mode : Mode} {s : State} {e : ErrCode}
    (h : msgStartCheck dir mode s = some e) :
    exec (.msgStart (msgStartOperand dir mode)) s = .next (raise e s) := by
  have refuses := exec_msgStart_of_check_eq_some (a := msgStartOperand dir mode) (s := s) (c := e)
  rw [msgDirOf_operand, msgModeOf_operand] at refuses
  exact refuses h

section
variable {mode : Mode} {iv : Block} {c : List Byte} {lat : Nat → Nat} {s : State}

/-- The result of DECRYPT_MSG is one of three: R235's two errors, or the verdict of the loop. -/
theorem decryptMsg_eq (hready : ReadyForMessage s) (hc : c.length < 2 ^ 32) :
    ∃ t, decryptMsg mode iv c lat s = .next (t,
      if c.length % 16 ≠ 0 then .error ErrCode.invalidBlockLength.code
      else hostVerdict (pkcs7Remove (joinBlocks (decryptBlocks mode (invCipher s.nr.count (roundKey s.rkw))
        (modeChain mode zeroBlock iv) (blocksOf (c.length / 16) c))))) := by
  have ⟨_, _, _, inactive, _⟩ := hready
  obtain ⟨u, loaded, start⟩ := hready.idle.runOps_startOps inactive .dec mode iv c.length (lat 0)
  have msgLen := loaded.toNat_msgLen hc
  have ivComplete : mode = .cbc → u.ivWr = 0b1111#4 := fun hmode => by
    obtain ⟨-, hivWr⟩ := loaded.iv hmode
    exact hivWr
  have refused {e : ErrCode} (he : e.code ≠ 0) (check : msgStartCheck .dec mode u = some e) :
      ∃ t, decryptMsg mode iv c lat s = .next (t, .error e.code) := by
    obtain ⟨t, ht, -, herr⟩ := start _ (exec_msgStart_operand_of_error check)
    rw [raise_err] at herr
    exact ⟨t, by rw [decryptMsg, ht, thenHost, herr, if_pos he]⟩
  by_cases aligned : c.length % 16 = 0
  · rw [if_neg (not_not.mpr aligned)]
    obtain empty | ⟨n, blocks⟩ : c.length / 16 = 0 ∨ ∃ n, c.length / 16 = n + 1 := by
      cases c.length / 16 with
      | zero => exact .inl rfl
      | succ n => exact .inr ⟨n, rfl⟩
    · have lenZero : u.msgLen = 0#32 := BitVec.eq_of_toNat_eq (by rw [msgLen]; change c.length = 0; omega)
      rw [empty, blocksOf, List.range_zero, List.map_nil, decryptBlocks_nil, joinBlocks_nil]
      exact refused (by decide) (msgStartCheck_of_empty loaded.inactive loaded.key ivComplete rfl lenZero)
    · have nonempty : u.msgLen ≠ 0 := fun h0 => by
        rw [h0] at msgLen
        change 0 = c.length at msgLen
        omega
      have passes : msgStartCheck .dec mode u = none :=
        msgStartCheck_eq_none.mpr ⟨loaded.inactive, loaded.key, ivComplete, fun _ => ⟨by rw [msgLen, aligned], nonempty⟩⟩
      obtain ⟨t, ht, settled, herr⟩ := start _ (exec_msgStart_operand passes)
      have begun := loaded.inMessage_dec hc
      have noError : errField (lastData t) = 0 := by
        rw [herr, begun.err]
        rfl
      rw [blocks] at begun
      obtain ⟨t', hloop⟩ := decryptLoop_eq (k := 0) c lat (by omega) (begun.settled settled) []
      refine ⟨t', ?_⟩
      rw [decryptMsg, ht, thenHost, if_neg (not_not.mpr noError), blocks, List.range_eq_range', hloop, List.nil_append,
        cipherBlocks, ← List.range_eq_range', blocksOf]
  · rw [if_pos aligned]
    exact refused (by decide)
      (msgStartCheck_of_unaligned loaded.inactive loaded.key ivComplete rfl (by rwa [msgLen]))

end

/-- Settles O40: the result of `decryptMsg_eq` is that of Decrypt, with the same schedule and the same blocks. -/
theorem decryptMsgComputesDecrypt : Obligations.DecryptMsgComputesDecrypt := by
  intro k mode iv c lat s hk hmade hready hc
  obtain ⟨hr, hrkw⟩ := hmade.held hk
  have hiv := usableIv_blockBytes mode iv
  obtain ⟨t, ht⟩ := decryptMsg_eq (mode := mode) (iv := iv) (lat := lat) hready hc
  rw [hrkw, ← decryptedBytes] at ht
  refine ⟨t, ht.trans ?_⟩
  by_cases aligned : c.length % 16 = 0
  · rw [if_neg (not_not.mpr aligned)]
    cases hp : pkcs7Remove (decryptedBytes k mode s.nr (modeChain mode zeroBlock iv) c) with
    | none => rw [decryptRef_of_invalidPadding hr hiv aligned hp]; rfl
    | some p => rw [decryptRef_of_removed hr hiv aligned hp]; rfl
  · rw [if_pos aligned, decryptRef_of_unaligned hr hiv aligned]
    rfl

end Sys2Proof.Machine
end
